-- ==== Sys2Proof/Word.lean ====
section
/-!
DEFINITION. The machine's words, at the widths of 00_scope.md R6 and R7. All values are unsigned (R8).
-/

namespace Sys2Proof

/-- A duration in microseconds as a port or `mark_latch` carries it, `DUR_W` = 16 bits (00_scope.md R7). -/
abbrev Duration := BitVec 16

/-- A time in milliseconds, `TIME_W` = 32 bits (00_scope.md R7, 10_state.md R41). -/
abbrev Time := BitVec 32

/-- A command code, `CODE_W` = 8 bits (00_scope.md R6). All 256 values are codes; "none" is not one of them. -/
abbrev Code := BitVec 8

/-- A handler identifier, `HID_W` = 16 bits (00_scope.md R7). -/
abbrev HandlerId := BitVec 16

/-- The pin selector, `PIN_W` = 8 bits (00_scope.md R7). -/
abbrev Pin := BitVec 8

/-- A word of the pulse port, P-PLS (30_encoding.md R96). -/
abbrev PulseWord := BitVec 17

/-- A host command word, P-HCMD (30_encoding.md R97). -/
abbrev HostWord := BitVec 32

/-- A host response word, P-HRSP (30_encoding.md R99). -/
abbrev RspWord := BitVec 9

/-- An invocation record word, P-INV (30_encoding.md R100). -/
abbrev InvWord := BitVec 26

/-- A DecodeResult word, I-DRES (30_encoding.md R101). -/
abbrev DresWord := BitVec 10

end Sys2Proof
end

