-- ==== Sys2Proof/Config.lean ====
section
/-!
DEFINITION. The parameters of IRDEC: the literals YF fixes (00_scope.md R6) and the choices it leaves
open (00_scope.md R7), as fields of one record whose defaults are the values this spec takes. A machine
carries its parameters in `State.cfg`, which no step writes, so that a claim can be made for every
choice of them (92_eei_decisions.md D30). Log entries 9, 12 and 13.
-/

namespace Sys2Proof

/-- Which 1 bits of the address region fire the resynchronisation heuristic (00_scope.md R7, 90_conflicts.md C2). -/
inductive ResyncRule where
  /-- Any data pair of value 1 with incremented count at most `N_ADDR_END` (40_frame_decoder.md R143, normative). -/
  | any
  /-- Only the first data pair, incremented count 1 (40_frame_decoder.md R155). -/
  | firstOnly
deriving DecidableEq, Repr

/-- The order in which the matching handlers of one event are invoked (42_event_dispatch.md R202). -/
inductive HandlerOrder where
  /-- Oldest registration first (this spec's IRDEC). -/
  | registration
  /-- Most recent registration first (the other order YF allows). -/
  | reverse
deriving DecidableEq, Repr

/-- The parameters of 00_scope.md R6 and R7. `nHandlers = none` is an unbounded handler table. -/
structure Config where
  tOne : Nat := 1600
  tSync : Nat := 2700
  tStartLo : Nat := 12500
  tStartHi : Nat := 14500
  nAddrEnd : Nat := 8
  nInvEnd : Nat := 16
  nCmdEnd : Nat := 24
  resyncTo : Nat := 9
  repeatTimeout : Nat := 120
  nHandlers : Option Nat := none
  resyncRule : ResyncRule := .any
  handlerOrder : HandlerOrder := .registration
deriving DecidableEq, Repr

/-- The parameters at the values of 00_scope.md R6 and R7, with `N_HANDLERS` unbounded (log entry 9). -/
def Config.irdec : Config := {}

/-- `WATCH_ACTIVE` = `REPEAT_TIMEOUT` (00_scope.md R6). -/
def Config.watchActive (c : Config) : Nat := c.repeatTimeout

/-- `WATCH_IDLE` = 2 × `REPEAT_TIMEOUT` (00_scope.md R6). -/
def Config.watchIdle (c : Config) : Nat := 2 * c.repeatTimeout

end Sys2Proof
end

