-- ==== Sys2Proof/Syntax.lean ====
section
/-!
DEFINITION. The operations of IRDEC, one constructor per row of spec/opcode_table.json (30_encoding.md
R104), with the operands the row's rule gives it.
-/

namespace Sys2Proof

/-- The protocol variant (10_state.md R27): ZA, encoded 0, is the zero-address variant with the
resynchronisation heuristic on; GA, encoded 1, is the general-address variant with it off. -/
inductive Protocol where
  | za
  | ga
deriving DecidableEq, Repr

/-- The kind of an event and of a table entry (10_state.md R37): PRESSED is encoded 0, RELEASED 1. -/
inductive Action where
  | pressed
  | released
deriving DecidableEq, Repr

/-- The five symbol classes of a pulse pair (30_encoding.md R91). -/
inductive SymbolClass where
  | zero
  | one
  | repeatCode
  | start
  | long
deriving DecidableEq, Repr

/-- The six cases of `push_bit` (40_frame_decoder.md R142 to R148). -/
inductive BitPhase where
  | addr
  | resync
  | invAddr
  | cmd
  | cmdLast
  | invCmd
deriving DecidableEq, Repr

/-- The operations of 30_encoding.md R104. -/
inductive Instr where
  /-- MARK: a mark has ended; `dur` is its length (40_frame_decoder.md R130). -/
  | mark (dur : Duration)
  /-- SPACE: a space has ended; `dur` is its length (R131). -/
  | space (dur : Duration)
  /-- SYM.ZERO: a pair of summed duration `d` below `T_ONE` (R136). -/
  | symZero (d : Duration)
  /-- SYM.ONE: `T_ONE ≤ d < T_SYNC` (R137). -/
  | symOne (d : Duration)
  /-- SYM.REPEAT: `T_SYNC ≤ d < T_START_LO` (R138). -/
  | symRepeat (d : Duration)
  /-- SYM.START: `T_START_LO ≤ d < T_START_HI` (R139). -/
  | symStart (d : Duration)
  /-- SYM.LONG: `T_START_HI ≤ d` (R140). -/
  | symLong (d : Duration)
  /-- BIT.ADDR: an address bit that is ignored (R142). -/
  | bitAddr (b : Bool)
  /-- BIT.RESYNC: the resynchronisation heuristic; its bit is always 1 (R143). -/
  | bitResync
  /-- BIT.INVADDR: an inverse-address bit (R144). -/
  | bitInvaddr (b : Bool)
  /-- BIT.CMD: one of the first seven command bits (R145). -/
  | bitCmd (b : Bool)
  /-- BIT.CMDLAST: the eighth command bit (R146). -/
  | bitCmdlast (b : Bool)
  /-- BIT.INVCMD: an inverse-command bit, or anything after it (R148). -/
  | bitInvcmd (b : Bool)
  /-- TRK.CMDNEW: a command distinct from the active one (41_command_tracker.md R173). -/
  | trkCmdnew (c : Code)
  /-- TRK.CMDSAME: the active command again (R174). -/
  | trkCmdsame (c : Code)
  /-- TRK.REPEAT: a repeat code (R175). -/
  | trkRepeat
  /-- TRK.INCOMPLETE: nothing decoded (R176). -/
  | trkIncomplete
  /-- WCHK: one check by the timeout watcher (R178). -/
  | wchk
  /-- EV.PRESSED: dispatch of the event `pressed(code)` (42_event_dispatch.md R201). `handler` is the
  record word's handler field, an output field that the dispatch does not read (log entry 7). -/
  | evPressed (handler : HandlerId) (code : Code)
  /-- EV.RELEASED: dispatch of the event `released(code)` (R201); `handler` as for EV.PRESSED. -/
  | evReleased (handler : HandlerId) (code : Code)
  /-- NOP (43_connect_and_step.md R232). -/
  | nop
  /-- CONNECT: `connect(pin, protocol_variant)` (R230, R231). -/
  | connect (variant : Protocol) (pin : Pin)
  /-- ONBTN: `on_button(button_code_or_any, action, handler)` (42_event_dispatch.md R206). -/
  | onbtn (handler : HandlerId) (action : Action) (any : Bool) (code : Code)
  /-- LAST: `last_button_code()` (R207). -/
  | last
  /-- WAS: `was_any_button_pressed()` (R208). -/
  | was
  /-- RESERVED: a host command with `op` 0x5 to 0xF (43_connect_and_step.md R232). -/
  | reserved (op : BitVec 4)
deriving DecidableEq, Repr

end Sys2Proof
end

