-- ==== Sys2Proof/WellFormed.lean ====
section
/-!
DEFINITION. What the operands of an operation must satisfy by themselves, whatever the state: a symbol's
duration lies in its band (30_encoding.md R91) and a reserved `op` is one of 0x5 to 0xF (R97). The
conditions that depend on the state (a count, the active command) are `Instr.selected` of Decode.lean.
-/

namespace Sys2Proof

/-- The thresholds are in the order under which 92_eei_decisions.md D30 has a model state its claims:
`0 < T_ONE < T_SYNC < T_START_LO ≤ T_START_HI`. -/
def Config.thresholdsOrdered (c : Config) : Bool :=
  decide (0 < c.tOne) && decide (c.tOne < c.tSync) && decide (c.tSync < c.tStartLo) &&
    decide (c.tStartLo ≤ c.tStartHi)

/-- The operands of `i` are ones its encoding admits, under the thresholds `c`. -/
def Instr.wellFormed (c : Config) : Instr → Bool
  | .mark _ => true
  | .space _ => true
  | .symZero d => decide (d.toNat < c.tOne)
  | .symOne d => decide (c.tOne ≤ d.toNat) && decide (d.toNat < c.tSync)
  | .symRepeat d => decide (c.tSync ≤ d.toNat) && decide (d.toNat < c.tStartLo)
  | .symStart d => decide (c.tStartLo ≤ d.toNat) && decide (d.toNat < c.tStartHi)
  | .symLong d => decide (c.tStartHi ≤ d.toNat)
  | .bitAddr _ => true
  | .bitResync => true
  | .bitInvaddr _ => true
  | .bitCmd _ => true
  | .bitCmdlast _ => true
  | .bitInvcmd _ => true
  | .trkCmdnew _ => true
  | .trkCmdsame _ => true
  | .trkRepeat => true
  | .trkIncomplete => true
  | .wchk => true
  | .evPressed _ _ => true
  | .evReleased _ _ => true
  | .nop => true
  | .connect _ _ => true
  | .onbtn _ _ _ _ => true
  | .last => true
  | .was => true
  | .reserved op => decide (5 ≤ op.toNat)

end Sys2Proof
end

