-- ==== Sys2Proof/Decode.lean ====
section
/-!
DEFINITION. The decoder and, after it, the encoder (30_encoding.md). An operation reaches IRDEC, or one
of its stages, as a word on a port or on an internal bus; which operation a word stands for depends on
the word and, for the internal cases, on the state (the conditions of opcode_table.json): the protocol,
the incremented count and the active command, gathered here in `Select`.
-/

namespace Sys2Proof

/-- A word as it is presented to IRDEC or to one of its stages (30_encoding.md R90). W-SYM is the pair's
duration itself and W-FRM's word is the data bit, its position being state (R91, R92); the watcher has
no word (41_command_tracker.md R178). Log entry 5. -/
inductive BusWord where
  /-- P-PLS, the pulse port. -/
  | pulse (w : PulseWord)
  /-- W-SYM, the summed duration of one pulse pair, between ACC and DISC. -/
  | sym (d : Duration)
  /-- W-FRM, one data bit, between DISC and SYNC. -/
  | bit (b : Bool)
  /-- I-DRES, between the Frame Decoder and the Command Tracker. -/
  | dres (w : DresWord)
  /-- The expiry of the watcher timer. -/
  | timer
  /-- P-INV, the record format of Event Dispatch. -/
  | inv (w : InvWord)
  /-- P-HCMD, the host command port. -/
  | host (w : HostWord)
deriving DecidableEq, Repr

/-- The word is one that the outside world or the timer presents (43_connect_and_step.md R236), not one
of the buses between two stages. -/
def BusWord.isInput : BusWord → Bool
  | .pulse _ => true
  | .timer => true
  | .host _ => true
  | .sym _ => false
  | .bit _ => false
  | .dres _ => false
  | .inv _ => false

/-- What the decoder reads of the state. -/
structure Select where
  cfg : Config
  protocol : Protocol
  /-- The incremented count `n` = `bits_received` + 1 (00_scope.md R9). -/
  count : Nat
  active : Option Code
deriving DecidableEq, Repr

/-- What the decoder reads of the state after reset (10_state.md R43). -/
def Select.reset : Select := { cfg := Config.irdec, protocol := .za, count := 1, active := none }

/-! ## Classification -/

/-- DISC's classification of a summed duration (40_frame_decoder.md R135): every comparison strict and
unsigned, so that a threshold belongs to the band above it. -/
def classify (c : Config) (d : Duration) : SymbolClass :=
  if d.toNat < c.tOne then .zero
  else if d.toNat < c.tSync then .one
  else if d.toNat < c.tStartLo then .repeatCode
  else if d.toNat < c.tStartHi then .start
  else .long

/-- Whether a data bit `b` at incremented count `n` of the address region fires the resynchronisation
heuristic: the condition of 40_frame_decoder.md R143, or of R155 under `FIRST_ONLY`. -/
def resyncFires (c : Config) (p : Protocol) (n : Nat) (b : Bool) : Bool :=
  match p with
  | .ga => false
  | .za =>
    match c.resyncRule with
    | .any => b
    | .firstOnly => b && n == 1

/-- SYNC's case for a data bit `b` with incremented count `n` (40_frame_decoder.md R141). -/
def bitPhase (c : Config) (p : Protocol) (n : Nat) (b : Bool) : BitPhase :=
  if n ≤ c.nAddrEnd then (if resyncFires c p n b then .resync else .addr)
  else if n ≤ c.nInvEnd then .invAddr
  else if n < c.nCmdEnd then .cmd
  else if n = c.nCmdEnd then .cmdLast
  else .invCmd

/-- Variant encoding of 10_state.md R27: 0 = ZA, 1 = GA. -/
def Protocol.ofBit (b : Bool) : Protocol := if b then .ga else .za

/-- Inverse of `Protocol.ofBit`. -/
def Protocol.bit : Protocol → Bool
  | .za => false
  | .ga => true

/-- Action encoding of 10_state.md R37: 0 = PRESSED, 1 = RELEASED. -/
def Action.ofBit (b : Bool) : Action := if b then .released else .pressed

/-- Inverse of `Action.ofBit`. -/
def Action.bit : Action → Bool
  | .pressed => false
  | .released => true

/-! ## The decoder -/

/-- P-PLS (30_encoding.md R96): bit 16 is `kind`, bits 15:0 `dur`. Every word is defined (R103 b). -/
def decodePulse (w : PulseWord) : Instr :=
  if w.getLsbD 16 then .space (w.extractLsb' 0 16) else .mark (w.extractLsb' 0 16)

/-- W-SYM (R91). -/
def decodeSym (k : Select) (d : Duration) : Instr :=
  match classify k.cfg d with
  | .zero => .symZero d
  | .one => .symOne d
  | .repeatCode => .symRepeat d
  | .start => .symStart d
  | .long => .symLong d

/-- W-FRM (R92, R94). -/
def decodeBit (k : Select) (b : Bool) : Instr :=
  match bitPhase k.cfg k.protocol k.count b with
  | .addr => .bitAddr b
  | .resync => .bitResync
  | .invAddr => .bitInvaddr b
  | .cmd => .bitCmd b
  | .cmdLast => .bitCmdlast b
  | .invCmd => .bitInvcmd b

/-- I-DRES (R101): bits 9:8 are the tag, bits 7:0 the code of a `Command`; tag 0b11 is never produced
and encodes nothing. A `Command` is TRK.CMDSAME when its code is active and TRK.CMDNEW when not (R104).
Under the tags of `Repeat` and `Incomplete`, for which R101 gives bits 7:0 = 0 alone, those bits are not
looked at (DEDUCED from the mask of opcode_table.json's rows, log 20). -/
def decodeDres (k : Select) (w : DresWord) : Option Instr :=
  match (w.extractLsb' 8 2).toNat with
  | 0 =>
    if k.active = some (w.extractLsb' 0 8) then some (.trkCmdsame (w.extractLsb' 0 8))
    else some (.trkCmdnew (w.extractLsb' 0 8))
  | 1 => some .trkRepeat
  | 2 => some .trkIncomplete
  | _ => none

/-- P-INV (R100): bits 25:10 `handler`, bit 9 `action`, bit 8 reserved 0, bits 7:0 `code`. A word with
bit 8 set is no record. -/
def decodeInv (w : InvWord) : Option Instr :=
  if w.getLsbD 8 then none
  else
    match Action.ofBit (w.getLsbD 9) with
    | .pressed => some (.evPressed (w.extractLsb' 10 16) (w.extractLsb' 0 8))
    | .released => some (.evReleased (w.extractLsb' 10 16) (w.extractLsb' 0 8))

/-- P-HCMD (R97, R98): bits 31:28 are `op`; the operation's operand fields below it, every other bit
ignored. -/
def decodeHost (w : HostWord) : Instr :=
  match (w.extractLsb' 28 4).toNat with
  | 0 => .nop
  | 1 => .connect (Protocol.ofBit (w.getLsbD 8)) (w.extractLsb' 0 8)
  | 2 => .onbtn (w.extractLsb' 10 16) (Action.ofBit (w.getLsbD 9)) (w.getLsbD 8) (w.extractLsb' 0 8)
  | 3 => .last
  | 4 => .was
  | _ => .reserved (w.extractLsb' 28 4)

/-- The operation a word stands for; `none` where it stands for none. -/
def decode (k : Select) : BusWord → Option Instr
  | .pulse w => some (decodePulse w)
  | .sym d => some (decodeSym k d)
  | .bit b => some (decodeBit k b)
  | .dres w => decodeDres k w
  | .timer => some .wchk
  | .inv w => decodeInv w
  | .host w => some (decodeHost w)

/-! ## Selection -/

/-- The condition under which the state selects the operation for its word (the `condition` column of
opcode_table.json, 30_encoding.md R104). The inputs of R236 and the events are selected by their word
alone. -/
def Instr.selected (k : Select) : Instr → Bool
  | .symZero d => classify k.cfg d == .zero
  | .symOne d => classify k.cfg d == .one
  | .symRepeat d => classify k.cfg d == .repeatCode
  | .symStart d => classify k.cfg d == .start
  | .symLong d => classify k.cfg d == .long
  | .bitAddr b => bitPhase k.cfg k.protocol k.count b == .addr
  | .bitResync => bitPhase k.cfg k.protocol k.count true == .resync
  | .bitInvaddr b => bitPhase k.cfg k.protocol k.count b == .invAddr
  | .bitCmd b => bitPhase k.cfg k.protocol k.count b == .cmd
  | .bitCmdlast b => bitPhase k.cfg k.protocol k.count b == .cmdLast
  | .bitInvcmd b => bitPhase k.cfg k.protocol k.count b == .invCmd
  | .trkCmdnew c => !(k.active == some c)
  | .trkCmdsame c => k.active == some c
  | .mark _ => true
  | .space _ => true
  | .trkRepeat => true
  | .trkIncomplete => true
  | .wchk => true
  | .evPressed _ _ => true
  | .evReleased _ _ => true
  | .nop => true
  | .connect _ _ => true
  | .onbtn _ _ _ _ => true
  | .last => true
  | .was => true
  | .reserved _ => true

/-! ## The encoder -/

/-- P-PLS from its fields (30_encoding.md R96). -/
def pulseWord (kind : Bool) (dur : Duration) : PulseWord := BitVec.ofBool kind ++ dur

/-- I-DRES from its fields (R101). -/
def dresWord (tag : BitVec 2) (c : Code) : DresWord := tag ++ c

/-- P-INV from its fields (R100). -/
def invWord (handler : HandlerId) (action : Action) (code : Code) : InvWord :=
  handler ++ BitVec.ofBool action.bit ++ 0#1 ++ code

/-- P-HCMD with no operand field (R98). -/
def hostWord (op : BitVec 4) : HostWord := op ++ 0#28

/-- P-HCMD of CONNECT (R98). -/
def connectWord (variant : Protocol) (pin : Pin) : HostWord :=
  0x1#4 ++ 0#19 ++ BitVec.ofBool variant.bit ++ pin

/-- P-HCMD of ONBTN (R98). -/
def onbtnWord (handler : HandlerId) (action : Action) (any : Bool) (code : Code) : HostWord :=
  0x2#4 ++ 0#2 ++ handler ++ BitVec.ofBool action.bit ++ BitVec.ofBool any ++ code

/-- The word of an operation; reserved bits are 0 (R98). -/
def encode : Instr → BusWord
  | .mark dur => .pulse (pulseWord false dur)
  | .space dur => .pulse (pulseWord true dur)
  | .symZero d => .sym d
  | .symOne d => .sym d
  | .symRepeat d => .sym d
  | .symStart d => .sym d
  | .symLong d => .sym d
  | .bitAddr b => .bit b
  | .bitResync => .bit true
  | .bitInvaddr b => .bit b
  | .bitCmd b => .bit b
  | .bitCmdlast b => .bit b
  | .bitInvcmd b => .bit b
  | .trkCmdnew c => .dres (dresWord 0#2 c)
  | .trkCmdsame c => .dres (dresWord 0#2 c)
  | .trkRepeat => .dres (dresWord 1#2 0#8)
  | .trkIncomplete => .dres (dresWord 2#2 0#8)
  | .wchk => .timer
  | .evPressed handler code => .inv (invWord handler .pressed code)
  | .evReleased handler code => .inv (invWord handler .released code)
  | .nop => .host (hostWord 0#4)
  | .connect variant pin => .host (connectWord variant pin)
  | .onbtn handler action any code => .host (onbtnWord handler action any code)
  | .last => .host (hostWord 3#4)
  | .was => .host (hostWord 4#4)
  | .reserved op => .host (hostWord op)

/-! ## Words of the opcode table -/

/-- The port a word of opcode_table.json belongs to, from its width in whole bytes: 3 bytes hold a P-PLS
word, 2 an I-DRES word, 4 a P-INV or a P-HCMD word, and 1 a (short) W-SYM duration. The table has two
formats of four bytes whose words overlap where bits 31:28 are 0: the word 0 is taken as P-HCMD (NOP),
and any other word with bits 31:26 and bit 8 clear as P-INV. Only this reading of the table guesses; on
the machine a word arrives on its own port. Log entry 16. -/
def tableWord (nbits w : Nat) : BusWord :=
  if nbits ≤ 8 then .sym (BitVec.ofNat 16 w)
  else if nbits ≤ 16 then .dres (BitVec.ofNat 10 w)
  else if nbits ≤ 24 then .pulse (BitVec.ofNat 17 w)
  else if nbits < 32 then .inv (BitVec.ofNat 26 w)
  else if w ≠ 0 ∧ w < 2 ^ 26 ∧ w.testBit 8 = false then .inv (BitVec.ofNat 26 w)
  else .host (BitVec.ofNat 32 w)

/-- The instruction the decoder reads from a word of the opcode table, in the state after reset. -/
def decodeTableWord (nbits w : Nat) : Option Instr :=
  decode Select.reset (tableWord nbits w)

end Sys2Proof
end

