-- ==== Sys2Proof/Machine/State.lean ====
section
/-!
DEFINITION. The state of IRDEC: the record `S` of 10_state.md R20, the ports of 43_connect_and_step.md
R239, the results of the step just taken, and what is given to the machine from outside (its parameters
and the inputs to come). Plain data throughout. IRDEC has no memory (20_memory.md R60), no program
counter (10_state.md R22) and no general register (R21), so State has none.
-/

namespace Sys2Proof.Machine

/-- The three shapes of a DecodeResult (00_scope.md R10, 40_frame_decoder.md R134). -/
inductive DecodeResult where
  | incomplete
  | repeatCode
  | command (c : Code)
deriving DecidableEq, Repr

/-- An event of the Command Tracker (42_event_dispatch.md R200). -/
structure Event where
  action : Action
  code : Code
deriving DecidableEq, Repr

/-- One entry of the handler table `H` (10_state.md R37). -/
structure Entry where
  any : Bool
  code : Code
  action : Action
  handler : HandlerId
deriving DecidableEq, Repr

/-- One invocation record of the list OUT (00_scope.md R10, 30_encoding.md R100). -/
structure Invocation where
  handler : HandlerId
  action : Action
  code : Code
deriving DecidableEq, Repr

/-- The inputs of one clock cycle (43_connect_and_step.md R237, R239): the millisecond clock, the reset
line, and at most one word on each of the two ports (`none` is a port whose valid bit is 0). In
`State.cycle` it is the cycle being served: a word that has been taken is `none`. -/
structure Cycle where
  now : Time
  rst : Bool
  pulse : Option PulseWord
  host : Option HostWord
deriving DecidableEq, Repr

/-- One line of a script (30_encoding.md R105): a step of a trace, with its `now`. -/
structure ScriptLine where
  now : Time
  word : BusWord
deriving DecidableEq, Repr

/-- The machine's state. -/
@[ext]
structure State where
  /-- The parameters of 00_scope.md R6 and R7; no step writes them (log 12). -/
  cfg : Config
  /-- `connected` (10_state.md R26). -/
  connected : Bool
  /-- `protocol` (R27). -/
  protocol : Protocol
  /-- `pin_sel` (R28). -/
  pinSel : Pin
  /-- `mark_latch` (R25). -/
  markLatch : Duration
  /-- `bits_received` (R23), the unbounded natural of R20 (log 11). -/
  bitsReceived : Nat
  /-- `command_accumulator` (R24). -/
  commandAccumulator : Code
  /-- `active_command` (R29). -/
  activeCommand : Option Code
  /-- `repeat_deadline` (R30). -/
  repeatDeadline : Time
  /-- `last_reported_command` (R31). -/
  lastReportedCommand : Option Code
  /-- `has_unconsumed_press` (R32). -/
  hasUnconsumedPress : Bool
  /-- The handler table `H`, slot 0 first (R36). -/
  handlers : List Entry
  /-- `watch_due` (R38). -/
  watchDue : Time
  /-- The input ports in the clock cycle being served (43_connect_and_step.md R239). -/
  cycle : Cycle
  /-- The DecodeResult of the step just taken, if the Frame Decoder ran in it (log 14). -/
  dres : Option DecodeResult
  /-- The event list `E` of the step just taken (00_scope.md R10, log 14). -/
  events : List Event
  /-- The output list `OUT` of the step just taken (00_scope.md R10), which the P-INV port carries (log 15). -/
  out : List Invocation
  /-- The response port `host_rsp` of the step just taken (30_encoding.md R99); 0 but for LAST and WAS. -/
  hostRsp : RspWord
  /-- The clock cycles to come, first one first (log 1). -/
  cycles : List Cycle
  /-- The steps to come as a trace, in any interleaving (43_connect_and_step.md R238, log 2). -/
  script : List ScriptLine
deriving DecidableEq, Repr

/-- The reasons a step can end in a fault: none. "IRDEC raises no exception, fault or error, ever"
(60_exceptions.md R250), so the type has no constructor and nothing raises one. Log entry 19. -/
inductive Fault
deriving DecidableEq, Repr

/-- The reasons a step can refuse. -/
inductive Refusal where
  /-- Raised by `exec` for an instruction whose meaning is not written; no arm raises it now. Safe. -/
  | notModelled (mnemonic : String)
  /-- Raised by `step` for a word on an internal bus that encodes no operation: an I-DRES word of tag
  0b11, "never produced" (30_encoding.md R101), or a P-INV word with its reserved bit 8 set (R100). Only a
  script can present such a word. Safe: the machine stops, and no claim follows. Log entry 5. -/
  | noOperation
deriving DecidableEq, Repr

/-- The state after reset: every field of `S` at its value of 10_state.md R43, the outputs idle
(70_reset_and_hazards.md R280), no input presented and none to come (log 18), the parameters at this
spec's values. -/
def State.reset : State where
  cfg := Config.irdec
  connected := false
  protocol := .za
  pinSel := 0
  markLatch := 0
  bitsReceived := 0
  commandAccumulator := 0
  activeCommand := none
  repeatDeadline := 0
  lastReportedCommand := none
  hasUnconsumedPress := false
  handlers := []
  watchDue := 0
  cycle := { now := 0, rst := false, pulse := none, host := none }
  dres := none
  events := []
  out := []
  hostRsp := 0
  cycles := []
  script := []

end Sys2Proof.Machine
end

