-- ==== Sys2Proof/Machine/Flags.lean ====
section
/-!
DEFINITION. The two one-bit flags of 10_state.md R33: `has_unconsumed_press`, set by a new press and
cleared by WAS, and `connected`, set by the first CONNECT and cleared by reset alone.
-/

namespace Sys2Proof.Machine

/-- A new press sets `has_unconsumed_press` (10_state.md R32). -/
def State.setPressFlag (s : State) : State := { s with hasUnconsumedPress := true }

/-- WAS clears `has_unconsumed_press` (10_state.md R32, 42_event_dispatch.md R208). -/
def State.clearPressFlag (s : State) : State := { s with hasUnconsumedPress := false }

/-- The first CONNECT sets `connected` (10_state.md R26). -/
def State.setConnected (s : State) : State := { s with connected := true }

end Sys2Proof.Machine
end

