-- ==== Sys2Proof/Machine/Operands.lean ====
section
/-!
DEFINITION. How each operand is assembled (30_encoding.md R102), and the words of the response and
output ports (R99 to R101).
-/

namespace Sys2Proof.Machine

/-- `d = sat_16(mark_latch + dur)`: the exact sum, saturated at 65535 (40_frame_decoder.md R132). -/
def pairDuration (mark dur : Duration) : Duration :=
  BitVec.ofNat 16 (min (mark.toNat + dur.toNat) 65535)

/-- `((acc << 1) + b) mod 256`: shift left, the new bit entering at bit 0 (40_frame_decoder.md R145). -/
def shiftIn (acc : Code) (b : Bool) : Code :=
  BitVec.ofNat 8 (acc.toNat * 2 + b.toNat)

/-- A time `ms` milliseconds after `t`, on the `TIME_W`-bit clock (30_encoding.md R102 c, log 10). -/
def later (t : Time) (ms : Nat) : Time := t + BitVec.ofNat 32 ms

/-- The time input of the step (10_state.md R41). -/
def State.now (s : State) : Time := s.cycle.now

/-- The incremented count `n` of the data pair in hand (00_scope.md R9). -/
def State.nextCount (s : State) : Nat := s.bitsReceived + 1

/-- What the decoder reads of the state. -/
def State.select (s : State) : Select :=
  { cfg := s.cfg, protocol := s.protocol, count := s.nextCount, active := s.activeCommand }

/-- The match operand of a table entry (30_encoding.md R102 d, 42_event_dispatch.md R201): same action,
and either the wildcard or the same code. -/
def Entry.matchesEvent (e : Entry) (a : Action) (c : Code) : Bool :=
  e.action == a && (e.any || e.code == c)

/-- P-HRSP of LAST (30_encoding.md R99): the valid bit, then the code. -/
def lastResponse : Option Code → RspWord
  | none => 0
  | some c => 1#1 ++ c

/-- P-HRSP of WAS (30_encoding.md R99): the flag in bit 0. -/
def wasResponse (flag : Bool) : RspWord := 0#8 ++ BitVec.ofBool flag

/-- P-INV of a record (30_encoding.md R100). -/
def Invocation.word (r : Invocation) : InvWord := invWord r.handler r.action r.code

/-- I-DRES of a DecodeResult (30_encoding.md R101). -/
def DecodeResult.word : DecodeResult → DresWord
  | .command c => dresWord 0#2 c
  | .repeatCode => dresWord 1#2 0#8
  | .incomplete => dresWord 2#2 0#8

end Sys2Proof.Machine
end

