-- ==== Sys2Proof/Machine/Ops.lean ====
section
/-!
DEFINITION. The operations the meanings share: the start of a step, the stages of the Frame Decoder, the
Command Tracker's writes, the dispatch of events and the host's table and configuration writes. A stage
puts its result on the bus after it: the decoder on `dres`, the tracker on `events`, the dispatch on
`out`. IRDEC takes no exception and returns from none (60_exceptions.md R250, R261): the dispatch of an
event to the handlers is what stands in its place (R258).
-/

namespace Sys2Proof.Machine

/-- The start of every step: the results of the step before are gone from the buses and the output
ports (log 14). -/
def State.begin (s : State) : State :=
  { s with dres := none, events := [], out := [], hostRsp := 0 }

/-- Every field of `S` at its reset value, the outputs idle, the cycle's inputs ignored
(70_reset_and_hazards.md R280). The parameters, the clock and what is still to come stay (log 17). -/
def State.resetFields (s : State) : State :=
  { State.reset with
    cfg := s.cfg
    cycle := { now := s.cycle.now, rst := false, pulse := none, host := none }
    cycles := s.cycles
    script := s.script }

/-! ## Frame Decoder -/

/-- A synchronisation pulse: `bits_received <- 0`, result `r` (40_frame_decoder.md R138 to R140). -/
def State.syncPulse (s : State) (r : DecodeResult) : State :=
  { s with bitsReceived := 0, dres := some r }

/-- A data bit that is counted and ignored (R142, R144, R148). -/
def State.countBit (s : State) : State :=
  { s with bitsReceived := s.nextCount, dres := some .incomplete }

/-- The resynchronisation heuristic: `bits_received <- RESYNC_TO` (R143). -/
def State.resyncCount (s : State) : State :=
  { s with bitsReceived := s.cfg.resyncTo, dres := some .incomplete }

/-- A command bit that does not complete the command (R145). -/
def State.commandBit (s : State) (b : Bool) : State :=
  { s with
    bitsReceived := s.nextCount
    commandAccumulator := shiftIn s.commandAccumulator b
    dres := some .incomplete }

/-- The last command bit: shift in, then return the accumulator as the command (R146). -/
def State.lastCommandBit (s : State) (b : Bool) : State :=
  { s with
    bitsReceived := s.nextCount
    commandAccumulator := shiftIn s.commandAccumulator b
    dres := some (.command (shiftIn s.commandAccumulator b)) }

/-- The case of `push_bit` that a data bit `b` takes in this state (R141). -/
def State.phase (s : State) (b : Bool) : BitPhase :=
  bitPhase s.cfg s.protocol s.nextCount b

/-- `push_bit(b)` (R141). -/
def State.pushBit (s : State) (b : Bool) : State :=
  match s.phase b with
  | .addr => s.countBit
  | .resync => s.resyncCount
  | .invAddr => s.countBit
  | .cmd => s.commandBit b
  | .cmdLast => s.lastCommandBit b
  | .invCmd => s.countBit

/-- `decode_pulse_pair(d)` (R134, R135). -/
def State.decodePulsePair (s : State) (d : Duration) : State :=
  match classify s.cfg d with
  | .zero => s.pushBit false
  | .one => s.pushBit true
  | .repeatCode => s.syncPulse .repeatCode
  | .start => s.syncPulse .incomplete
  | .long => s.syncPulse .incomplete

/-! ## Command Tracker -/

/-- `repeat_deadline <- now + REPEAT_TIMEOUT` (41_command_tracker.md R171). -/
def State.refreshDeadline (s : State) : State :=
  { s with repeatDeadline := later s.now s.cfg.repeatTimeout }

/-- `emit e` (00_scope.md R10). -/
def State.emit (s : State) (a : Action) (c : Code) : State :=
  { s with events := s.events ++ [{ action := a, code := c }] }

/-- `released` of the active command, where one is active, with its code as it is now (R173, R178). -/
def State.emitRelease (s : State) : State :=
  match s.activeCommand with
  | none => s
  | some a => s.emit .released a

/-- A command distinct from the active one (R173): refresh, release the old button, then press the new. -/
def State.newCommand (s : State) (c : Code) : State :=
  let t := s.refreshDeadline.emitRelease.setPressFlag
  { t with activeCommand := some c, lastReportedCommand := some c }.emit .pressed c

/-- `track(v, now)` on a `Command(c)`: TRK.CMDNEW or TRK.CMDSAME (R172 to R174). -/
def State.trackCommand (s : State) (c : Code) : State :=
  if s.activeCommand = some c then s.refreshDeadline else s.newCommand c

/-- `track(v, now)` on the result the decoder has put on its bus (R170). -/
def State.track (s : State) : State :=
  match s.dres with
  | some (.command c) => s.trackCommand c
  | some .repeatCode => s.refreshDeadline
  | some .incomplete => s
  | none => s

/-- Whether a check made now releases: a command is active and `now > repeat_deadline`, strictly (R178). -/
def State.timedOut (s : State) : Bool :=
  s.activeCommand.isSome && decide (s.repeatDeadline.toNat < s.now.toNat)

/-- The releasing half of a watcher check (R178). -/
def State.releaseIfTimedOut (s : State) : State :=
  if s.timedOut then { s.emitRelease with activeCommand := none } else s

/-- The watcher's next sleep, by the state after the check (R180 c). -/
def State.watchPeriod (s : State) : Nat :=
  if s.activeCommand = none then s.cfg.watchIdle else s.cfg.watchActive

/-- `watch_due <- now + ...` (R178, R180). -/
def State.reloadWatch (s : State) : State :=
  { s with watchDue := later s.now s.watchPeriod }

/-! ## Event Dispatch -/

/-- The entries an event is delivered to, in the order of delivery (42_event_dispatch.md R201, R202). -/
def matching (order : HandlerOrder) (h : List Entry) (a : Action) (c : Code) : List Entry :=
  match order with
  | .registration => h.filter (fun e => e.matchesEvent a c)
  | .reverse => (h.filter (fun e => e.matchesEvent a c)).reverse

/-- `dispatch_one(a, c)` (R201): the records of one event. -/
def dispatchOne (order : HandlerOrder) (h : List Entry) (a : Action) (c : Code) : List Invocation :=
  (matching order h a c).map (fun e => { handler := e.handler, action := a, code := c })

/-- `dispatch(E)` (R201): all records of the first event before all of the second (R203). -/
def dispatchAll (order : HandlerOrder) (h : List Entry) (es : List Event) : List Invocation :=
  es.flatMap (fun e => dispatchOne order h e.action e.code)

/-- Dispatch of the events of the step (R201). -/
def State.dispatch (s : State) : State :=
  { s with out := dispatchAll s.cfg.handlerOrder s.handlers s.events }

/-- Dispatch of one event by itself (R201). -/
def State.dispatchEvent (s : State) (a : Action) (c : Code) : State :=
  { s with out := dispatchOne s.cfg.handlerOrder s.handlers a c }

/-! ## Host -/

/-- There is a free slot: `length(H) < N_HANDLERS`, always so where the table is unbounded (R206). -/
def State.hasRoom (s : State) : Bool :=
  match s.cfg.nHandlers with
  | none => true
  | some n => decide (s.handlers.length < n)

/-- A registration: appended at slot `length(H)`, dropped where the table is full (R206, log 9). -/
def State.register (s : State) (e : Entry) : State :=
  if s.hasRoom then { s with handlers := s.handlers ++ [e] } else s

/-- The first CONNECT (43_connect_and_step.md R230). -/
def State.configure (s : State) (variant : Protocol) (pin : Pin) : State :=
  { s.setConnected with
    protocol := variant
    pinSel := pin
    watchDue := later s.now s.cfg.watchIdle }

/-- The response of a host operation (30_encoding.md R99). -/
def State.respond (s : State) (w : RspWord) : State := { s with hostRsp := w }

end Sys2Proof.Machine
end

