-- ==== Sys2Proof/Machine/BitCases.lean ====
section
/-!
DEFINITION. The meanings of SYNC's six cases of `push_bit` (40_frame_decoder.md R142 to R148). A case
acts when the protocol, the incremented count and the bit select it, and does nothing when they do not
(log 6); run by itself it does not look at `connected` (log 21).
-/

namespace Sys2Proof.Machine

/-- BIT.ADDR (R142). -/
def execBitAddr (b : Bool) (s : State) : Host.Outcome State Fault Refusal :=
  if s.phase b = .addr then .next s.begin.countBit else .next s.begin

/-- BIT.RESYNC (R143); its bit is 1. -/
def execBitResync (s : State) : Host.Outcome State Fault Refusal :=
  if s.phase true = .resync then .next s.begin.resyncCount else .next s.begin

/-- BIT.INVADDR (R144). -/
def execBitInvaddr (b : Bool) (s : State) : Host.Outcome State Fault Refusal :=
  if s.phase b = .invAddr then .next s.begin.countBit else .next s.begin

/-- BIT.CMD (R145). -/
def execBitCmd (b : Bool) (s : State) : Host.Outcome State Fault Refusal :=
  if s.phase b = .cmd then .next (s.begin.commandBit b) else .next s.begin

/-- BIT.CMDLAST (R146). -/
def execBitCmdlast (b : Bool) (s : State) : Host.Outcome State Fault Refusal :=
  if s.phase b = .cmdLast then .next (s.begin.lastCommandBit b) else .next s.begin

/-- BIT.INVCMD (R148). -/
def execBitInvcmd (b : Bool) (s : State) : Host.Outcome State Fault Refusal :=
  if s.phase b = .invCmd then .next s.begin.countBit else .next s.begin

end Sys2Proof.Machine
end

