-- ==== Sys2Proof/Machine/HostOps.lean ====
section
/-!
DEFINITION. The meanings of Event Dispatch's operations (42_event_dispatch.md R201, R206 to R208) and of
the configuration and idle host operations (43_connect_and_step.md R230 to R232).
-/

namespace Sys2Proof.Machine

/-- EV.PRESSED (R201). The record's handler field is an output and is not read (log 7), nor
is `connected` (log 21). -/
def execEvPressed (_handler : HandlerId) (code : Code) (s : State) : Host.Outcome State Fault Refusal :=
  .next (s.begin.dispatchEvent .pressed code)

/-- EV.RELEASED (R201). The record's handler field is an output and is not read (log 7), nor
is `connected` (log 21). -/
def execEvReleased (_handler : HandlerId) (code : Code) (s : State) : Host.Outcome State Fault Refusal :=
  .next (s.begin.dispatchEvent .released code)

/-- NOP (R232): response 0, nothing else. -/
def execNop (s : State) : Host.Outcome State Fault Refusal :=
  .next (s.begin.respond 0)

/-- CONNECT: the first call configures (R230), any later one is a silent no-op (R231). -/
def execConnect (variant : Protocol) (pin : Pin) (s : State) : Host.Outcome State Fault Refusal :=
  if s.connected then .next (s.begin.respond 0)
  else .next ((s.begin.configure variant pin).respond 0)

/-- ONBTN (R206). -/
def execOnbtn (handler : HandlerId) (action : Action) (any : Bool) (code : Code) (s : State) :
    Host.Outcome State Fault Refusal :=
  .next ((s.begin.register { any := any, code := code, action := action, handler := handler }).respond 0)

/-- LAST (R207). -/
def execLast (s : State) : Host.Outcome State Fault Refusal :=
  .next (s.begin.respond (lastResponse s.lastReportedCommand))

/-- WAS (R208): return the flag, then clear it. -/
def execWas (s : State) : Host.Outcome State Fault Refusal :=
  .next (s.begin.clearPressFlag.respond (wasResponse s.hasUnconsumedPress))

/-- RESERVED (R232): response 0, nothing else (log 8). -/
def execReserved (_op : BitVec 4) (s : State) : Host.Outcome State Fault Refusal :=
  .next (s.begin.respond 0)

end Sys2Proof.Machine
end

