-- ==== Sys2Proof/Machine/Pulse.lean ====
section
/-!
DEFINITION. The meanings of the pulse port's operations, MARK and SPACE (40_frame_decoder.md R130 to
R133; before the first CONNECT a report is dropped whole, 43_connect_and_step.md R233).
-/

namespace Sys2Proof.Machine

/-- MARK (R130). -/
def execMark (dur : Duration) (s : State) : Host.Outcome State Fault Refusal :=
  if s.connected then .next { s.begin with markLatch := dur } else .next s.begin

/-- SPACE (R131): ACC, DISC, SYNC, TRK and MUX in one step. -/
def execSpace (dur : Duration) (s : State) : Host.Outcome State Fault Refusal :=
  if s.connected then
    .next (s.begin.decodePulsePair (pairDuration s.markLatch dur)).track.dispatch
  else .next s.begin

end Sys2Proof.Machine
end

