-- ==== Sys2Proof/Machine/Symbol.lean ====
section
/-!
DEFINITION. The meanings of DISC's five symbol cases (40_frame_decoder.md R136 to R140). A case acts
when the duration is in its band, and does nothing when it is not selected (log 6); run by itself it does
not look at `connected` (log 21).
-/

namespace Sys2Proof.Machine

/-- SYM.ZERO (R136): `return push_bit(0)`. -/
def execSymZero (d : Duration) (s : State) : Host.Outcome State Fault Refusal :=
  if classify s.cfg d = .zero then .next (s.begin.pushBit false) else .next s.begin

/-- SYM.ONE (R137): `return push_bit(1)`. -/
def execSymOne (d : Duration) (s : State) : Host.Outcome State Fault Refusal :=
  if classify s.cfg d = .one then .next (s.begin.pushBit true) else .next s.begin

/-- SYM.REPEAT (R138): `bits_received <- 0; return Repeat`. -/
def execSymRepeat (d : Duration) (s : State) : Host.Outcome State Fault Refusal :=
  if classify s.cfg d = .repeatCode then .next (s.begin.syncPulse .repeatCode) else .next s.begin

/-- SYM.START (R139): `bits_received <- 0; return Incomplete`. -/
def execSymStart (d : Duration) (s : State) : Host.Outcome State Fault Refusal :=
  if classify s.cfg d = .start then .next (s.begin.syncPulse .incomplete) else .next s.begin

/-- SYM.LONG (R140): `bits_received <- 0; return Incomplete`. -/
def execSymLong (d : Duration) (s : State) : Host.Outcome State Fault Refusal :=
  if classify s.cfg d = .long then .next (s.begin.syncPulse .incomplete) else .next s.begin

end Sys2Proof.Machine
end

