-- ==== Sys2Proof/Machine/Tracker.lean ====
section
/-!
DEFINITION. The meanings of TRK's four cases (41_command_tracker.md R173 to R176) and of the watcher's
check (R178). TRK.CMDNEW and TRK.CMDSAME act when the active command selects them, and do nothing when it
does not (log 6). Run by themselves the four cases do not look at `connected` (log 21); WCHK does (R178).
-/

namespace Sys2Proof.Machine

/-- TRK.CMDNEW (R173). -/
def execTrkCmdnew (c : Code) (s : State) : Host.Outcome State Fault Refusal :=
  if s.activeCommand = some c then .next s.begin else .next (s.begin.newCommand c)

/-- TRK.CMDSAME (R174). -/
def execTrkCmdsame (c : Code) (s : State) : Host.Outcome State Fault Refusal :=
  if s.activeCommand = some c then .next s.begin.refreshDeadline else .next s.begin

/-- TRK.REPEAT (R175); with no active command the spurious repeat of R177. -/
def execTrkRepeat (s : State) : Host.Outcome State Fault Refusal :=
  .next s.begin.refreshDeadline

/-- TRK.INCOMPLETE (R176): no field is read or written. -/
def execTrkIncomplete (s : State) : Host.Outcome State Fault Refusal :=
  .next s.begin

/-- WCHK (R178): release if timed out, reload the timer, dispatch. -/
def execWchk (s : State) : Host.Outcome State Fault Refusal :=
  if s.connected then .next s.begin.releaseIfTimedOut.reloadWatch.dispatch else .next s.begin

end Sys2Proof.Machine
end

