-- ==== Sys2Proof/Machine/Dispatch.lean ====
section
/-! DEFINITION. `exec`: one arm per operation of 30_encoding.md R104, each one call of its meaning. -/

namespace Sys2Proof.Machine

def exec (i : Instr) (s : State) : Host.Outcome State Fault Refusal :=
  match i with
  | .mark dur => Sys2Proof.Machine.execMark dur s
  | .space dur => Sys2Proof.Machine.execSpace dur s
  | .symZero d => Sys2Proof.Machine.execSymZero d s
  | .symOne d => Sys2Proof.Machine.execSymOne d s
  | .symRepeat d => Sys2Proof.Machine.execSymRepeat d s
  | .symStart d => Sys2Proof.Machine.execSymStart d s
  | .symLong d => Sys2Proof.Machine.execSymLong d s
  | .bitAddr b => Sys2Proof.Machine.execBitAddr b s
  | .bitResync => Sys2Proof.Machine.execBitResync s
  | .bitInvaddr b => Sys2Proof.Machine.execBitInvaddr b s
  | .bitCmd b => Sys2Proof.Machine.execBitCmd b s
  | .bitCmdlast b => Sys2Proof.Machine.execBitCmdlast b s
  | .bitInvcmd b => Sys2Proof.Machine.execBitInvcmd b s
  | .trkCmdnew c => Sys2Proof.Machine.execTrkCmdnew c s
  | .trkCmdsame c => Sys2Proof.Machine.execTrkCmdsame c s
  | .trkRepeat => Sys2Proof.Machine.execTrkRepeat s
  | .trkIncomplete => Sys2Proof.Machine.execTrkIncomplete s
  | .wchk => Sys2Proof.Machine.execWchk s
  | .evPressed handler code => Sys2Proof.Machine.execEvPressed handler code s
  | .evReleased handler code => Sys2Proof.Machine.execEvReleased handler code s
  | .nop => Sys2Proof.Machine.execNop s
  | .connect variant pin => Sys2Proof.Machine.execConnect variant pin s
  | .onbtn handler action any code => Sys2Proof.Machine.execOnbtn handler action any code s
  | .last => Sys2Proof.Machine.execLast s
  | .was => Sys2Proof.Machine.execWas s
  | .reserved op => Sys2Proof.Machine.execReserved op s

end Sys2Proof.Machine
end

