-- ==== Sys2Proof/Machine/Fetch.lean ====
section
/-!
DEFINITION. Which input the next step takes: the reset line, the next line of a script, or the arbiter's
choice among the inputs of the clock cycle (43_connect_and_step.md R236 to R238). IRDEC fetches no
instruction from a memory (10_state.md R22): what it does next is decided by its next input.
-/

namespace Sys2Proof.Machine

/-- What the next step does. -/
inductive Fetched where
  /-- The reset line is high: the state after it. -/
  | reset (s : State)
  /-- An input is taken: its word, and the state with that input consumed. -/
  | word (w : BusWord) (s : State)
  /-- No input is presented: the state in the next clock cycle. -/
  | idle (s : State)
deriving DecidableEq, Repr

/-- The next line of the script is taken, at its time. -/
def State.takeScript (s : State) (l : ScriptLine) (rest : List ScriptLine) : State :=
  { s with cycle := { s.cycle with now := l.now }, script := rest }

/-- The pulse report of the cycle is taken. -/
def State.takePulse (s : State) : State := { s with cycle := { s.cycle with pulse := none } }

/-- The host command of the cycle is taken. -/
def State.takeHost (s : State) : State := { s with cycle := { s.cycle with host := none } }

/-- The watcher falls due in the clock cycle being served: `connected` and `now = watch_due`
(41_command_tracker.md R180 b, log 4). -/
def State.watchFallsDue (s : State) : Bool := s.connected && s.now == s.watchDue

/-- A millisecond passes in which nothing is presented (log 3). -/
def State.tick (s : State) : State :=
  { s.begin with cycle := { now := later s.now 1, rst := false, pulse := none, host := none } }

/-- The next clock cycle. The cycles to come carry their time: while the next one is more than a
millisecond ahead, a millisecond passes (log 3). -/
def State.nextCycle (s : State) : State :=
  match s.cycles with
  | [] => s.tick
  | c :: rest =>
    if s.now.toNat + 1 < c.now.toNat then s.tick
    else { s.begin with cycle := c, cycles := rest }

/-- The arbiter: pulse path first, then the watcher, then the host, each its own step (R237). -/
def State.arbitrate (s : State) : Fetched :=
  match s.cycle.pulse with
  | some w => .word (.pulse w) s.takePulse
  | none =>
    if s.watchFallsDue then .word .timer s
    else
      match s.cycle.host with
      | some w => .word (.host w) s.takeHost
      | none => .idle s.nextCycle

/-- The input of the next step. -/
def State.fetch (s : State) : Fetched :=
  if s.cycle.rst then .reset s.resetFields
  else
    match s.script with
    | l :: rest => .word l.word (s.takeScript l rest)
    | [] => s.arbitrate

/-- `s` with a word placed where the next step takes its input: at the head of the script, at the
present time, the reset line low (log 2). -/
def State.withInput (s : State) (w : BusWord) : State :=
  { s with
    cycle := { s.cycle with rst := false }
    script := { now := s.now, word := w } :: s.script }

end Sys2Proof.Machine
end

