-- ==== Sys2Proof/Machine/Step.lean ====
section
/-!
DEFINITION. One step of the machine: take the next input, decode it, run it (43_connect_and_step.md
R235). The host's `step` has no input argument, so the inputs to come stand in the state (log 1).
-/

namespace Sys2Proof.Machine

/-- One step. -/
def step (s : State) : Host.Outcome State Fault Refusal :=
  match s.fetch with
  | .reset t => .next t
  | .idle t => .next t
  | .word w t =>
    match decode t.select w with
    | some i => exec i t
    | none => .refused .noOperation

/-- `s` with the instruction of the table word `w` as the input of its next step. -/
def State.withFetchWord (s : State) (nbits w : Nat) : State :=
  s.withInput (tableWord nbits w)

end Sys2Proof.Machine
end

