-- ==== Sys2Proof/Laws/State.lean ====
section
/-!
SUPPORT. One lemma per field per update of the state, each true by `rfl`, so that no later proof unfolds a
record update; and what an update leaves of the values computed from the state.
-/

namespace Sys2Proof.Machine

/-! ## begin -/

@[simp] theorem State.begin_cfg (s : State) : s.begin.cfg = s.cfg := rfl
@[simp] theorem State.begin_connected (s : State) : s.begin.connected = s.connected := rfl
@[simp] theorem State.begin_protocol (s : State) : s.begin.protocol = s.protocol := rfl
@[simp] theorem State.begin_pinSel (s : State) : s.begin.pinSel = s.pinSel := rfl
@[simp] theorem State.begin_markLatch (s : State) : s.begin.markLatch = s.markLatch := rfl
@[simp] theorem State.begin_bitsReceived (s : State) : s.begin.bitsReceived = s.bitsReceived := rfl
@[simp] theorem State.begin_commandAccumulator (s : State) : s.begin.commandAccumulator = s.commandAccumulator := rfl
@[simp] theorem State.begin_activeCommand (s : State) : s.begin.activeCommand = s.activeCommand := rfl
@[simp] theorem State.begin_repeatDeadline (s : State) : s.begin.repeatDeadline = s.repeatDeadline := rfl
@[simp] theorem State.begin_lastReportedCommand (s : State) :
    s.begin.lastReportedCommand = s.lastReportedCommand := rfl
@[simp] theorem State.begin_hasUnconsumedPress (s : State) : s.begin.hasUnconsumedPress = s.hasUnconsumedPress := rfl
@[simp] theorem State.begin_handlers (s : State) : s.begin.handlers = s.handlers := rfl
@[simp] theorem State.begin_watchDue (s : State) : s.begin.watchDue = s.watchDue := rfl
@[simp] theorem State.begin_cycle (s : State) : s.begin.cycle = s.cycle := rfl
@[simp] theorem State.begin_dres (s : State) : s.begin.dres = none := rfl
@[simp] theorem State.begin_events (s : State) : s.begin.events = [] := rfl
@[simp] theorem State.begin_out (s : State) : s.begin.out = [] := rfl
@[simp] theorem State.begin_hostRsp (s : State) : s.begin.hostRsp = 0 := rfl
@[simp] theorem State.begin_cycles (s : State) : s.begin.cycles = s.cycles := rfl
@[simp] theorem State.begin_script (s : State) : s.begin.script = s.script := rfl
@[simp] theorem State.begin_now (s : State) : s.begin.now = s.now := rfl
@[simp] theorem State.begin_nextCount (s : State) : s.begin.nextCount = s.nextCount := rfl
@[simp] theorem State.begin_select (s : State) : s.begin.select = s.select := rfl
@[simp] theorem State.begin_phase (s : State) (b : Bool) : s.begin.phase b = s.phase b := rfl

/-! ## resetFields -/

@[simp] theorem State.resetFields_cfg (s : State) : s.resetFields.cfg = s.cfg := rfl
@[simp] theorem State.resetFields_connected (s : State) : s.resetFields.connected = false := rfl
@[simp] theorem State.resetFields_protocol (s : State) : s.resetFields.protocol = .za := rfl
@[simp] theorem State.resetFields_pinSel (s : State) : s.resetFields.pinSel = 0 := rfl
@[simp] theorem State.resetFields_markLatch (s : State) : s.resetFields.markLatch = 0 := rfl
@[simp] theorem State.resetFields_bitsReceived (s : State) : s.resetFields.bitsReceived = 0 := rfl
@[simp] theorem State.resetFields_commandAccumulator (s : State) : s.resetFields.commandAccumulator = 0 := rfl
@[simp] theorem State.resetFields_activeCommand (s : State) : s.resetFields.activeCommand = none := rfl
@[simp] theorem State.resetFields_repeatDeadline (s : State) : s.resetFields.repeatDeadline = 0 := rfl
@[simp] theorem State.resetFields_lastReportedCommand (s : State) : s.resetFields.lastReportedCommand = none := rfl
@[simp] theorem State.resetFields_hasUnconsumedPress (s : State) : s.resetFields.hasUnconsumedPress = false := rfl
@[simp] theorem State.resetFields_handlers (s : State) : s.resetFields.handlers = [] := rfl
@[simp] theorem State.resetFields_watchDue (s : State) : s.resetFields.watchDue = 0 := rfl
@[simp] theorem State.resetFields_cycle (s : State) :
    s.resetFields.cycle = { now := s.cycle.now, rst := false, pulse := none, host := none } := rfl
@[simp] theorem State.resetFields_dres (s : State) : s.resetFields.dres = none := rfl
@[simp] theorem State.resetFields_events (s : State) : s.resetFields.events = [] := rfl
@[simp] theorem State.resetFields_out (s : State) : s.resetFields.out = [] := rfl
@[simp] theorem State.resetFields_hostRsp (s : State) : s.resetFields.hostRsp = 0 := rfl
@[simp] theorem State.resetFields_cycles (s : State) : s.resetFields.cycles = s.cycles := rfl
@[simp] theorem State.resetFields_script (s : State) : s.resetFields.script = s.script := rfl

/-! ## setPressFlag -/

@[simp] theorem State.setPressFlag_cfg (s : State) : s.setPressFlag.cfg = s.cfg := rfl
@[simp] theorem State.setPressFlag_connected (s : State) : s.setPressFlag.connected = s.connected := rfl
@[simp] theorem State.setPressFlag_protocol (s : State) : s.setPressFlag.protocol = s.protocol := rfl
@[simp] theorem State.setPressFlag_pinSel (s : State) : s.setPressFlag.pinSel = s.pinSel := rfl
@[simp] theorem State.setPressFlag_markLatch (s : State) : s.setPressFlag.markLatch = s.markLatch := rfl
@[simp] theorem State.setPressFlag_bitsReceived (s : State) : s.setPressFlag.bitsReceived = s.bitsReceived := rfl
@[simp] theorem State.setPressFlag_commandAccumulator (s : State) :
    s.setPressFlag.commandAccumulator = s.commandAccumulator := rfl
@[simp] theorem State.setPressFlag_activeCommand (s : State) : s.setPressFlag.activeCommand = s.activeCommand := rfl
@[simp] theorem State.setPressFlag_repeatDeadline (s : State) :
    s.setPressFlag.repeatDeadline = s.repeatDeadline := rfl
@[simp] theorem State.setPressFlag_lastReportedCommand (s : State) :
    s.setPressFlag.lastReportedCommand = s.lastReportedCommand := rfl
@[simp] theorem State.setPressFlag_hasUnconsumedPress (s : State) : s.setPressFlag.hasUnconsumedPress = true := rfl
@[simp] theorem State.setPressFlag_handlers (s : State) : s.setPressFlag.handlers = s.handlers := rfl
@[simp] theorem State.setPressFlag_watchDue (s : State) : s.setPressFlag.watchDue = s.watchDue := rfl
@[simp] theorem State.setPressFlag_cycle (s : State) : s.setPressFlag.cycle = s.cycle := rfl
@[simp] theorem State.setPressFlag_dres (s : State) : s.setPressFlag.dres = s.dres := rfl
@[simp] theorem State.setPressFlag_events (s : State) : s.setPressFlag.events = s.events := rfl
@[simp] theorem State.setPressFlag_out (s : State) : s.setPressFlag.out = s.out := rfl
@[simp] theorem State.setPressFlag_hostRsp (s : State) : s.setPressFlag.hostRsp = s.hostRsp := rfl
@[simp] theorem State.setPressFlag_cycles (s : State) : s.setPressFlag.cycles = s.cycles := rfl
@[simp] theorem State.setPressFlag_script (s : State) : s.setPressFlag.script = s.script := rfl
@[simp] theorem State.setPressFlag_now (s : State) : s.setPressFlag.now = s.now := rfl

/-! ## clearPressFlag -/

@[simp] theorem State.clearPressFlag_cfg (s : State) : s.clearPressFlag.cfg = s.cfg := rfl
@[simp] theorem State.clearPressFlag_connected (s : State) : s.clearPressFlag.connected = s.connected := rfl
@[simp] theorem State.clearPressFlag_protocol (s : State) : s.clearPressFlag.protocol = s.protocol := rfl
@[simp] theorem State.clearPressFlag_pinSel (s : State) : s.clearPressFlag.pinSel = s.pinSel := rfl
@[simp] theorem State.clearPressFlag_markLatch (s : State) : s.clearPressFlag.markLatch = s.markLatch := rfl
@[simp] theorem State.clearPressFlag_bitsReceived (s : State) : s.clearPressFlag.bitsReceived = s.bitsReceived := rfl
@[simp] theorem State.clearPressFlag_commandAccumulator (s : State) :
    s.clearPressFlag.commandAccumulator = s.commandAccumulator := rfl
@[simp] theorem State.clearPressFlag_activeCommand (s : State) :
    s.clearPressFlag.activeCommand = s.activeCommand := rfl
@[simp] theorem State.clearPressFlag_repeatDeadline (s : State) :
    s.clearPressFlag.repeatDeadline = s.repeatDeadline := rfl
@[simp] theorem State.clearPressFlag_lastReportedCommand (s : State) :
    s.clearPressFlag.lastReportedCommand = s.lastReportedCommand := rfl
@[simp] theorem State.clearPressFlag_hasUnconsumedPress (s : State) :
    s.clearPressFlag.hasUnconsumedPress = false := rfl
@[simp] theorem State.clearPressFlag_handlers (s : State) : s.clearPressFlag.handlers = s.handlers := rfl
@[simp] theorem State.clearPressFlag_watchDue (s : State) : s.clearPressFlag.watchDue = s.watchDue := rfl
@[simp] theorem State.clearPressFlag_cycle (s : State) : s.clearPressFlag.cycle = s.cycle := rfl
@[simp] theorem State.clearPressFlag_dres (s : State) : s.clearPressFlag.dres = s.dres := rfl
@[simp] theorem State.clearPressFlag_events (s : State) : s.clearPressFlag.events = s.events := rfl
@[simp] theorem State.clearPressFlag_out (s : State) : s.clearPressFlag.out = s.out := rfl
@[simp] theorem State.clearPressFlag_hostRsp (s : State) : s.clearPressFlag.hostRsp = s.hostRsp := rfl
@[simp] theorem State.clearPressFlag_cycles (s : State) : s.clearPressFlag.cycles = s.cycles := rfl
@[simp] theorem State.clearPressFlag_script (s : State) : s.clearPressFlag.script = s.script := rfl
@[simp] theorem State.clearPressFlag_now (s : State) : s.clearPressFlag.now = s.now := rfl

/-! ## setConnected -/

@[simp] theorem State.setConnected_cfg (s : State) : s.setConnected.cfg = s.cfg := rfl
@[simp] theorem State.setConnected_connected (s : State) : s.setConnected.connected = true := rfl
@[simp] theorem State.setConnected_protocol (s : State) : s.setConnected.protocol = s.protocol := rfl
@[simp] theorem State.setConnected_pinSel (s : State) : s.setConnected.pinSel = s.pinSel := rfl
@[simp] theorem State.setConnected_markLatch (s : State) : s.setConnected.markLatch = s.markLatch := rfl
@[simp] theorem State.setConnected_bitsReceived (s : State) : s.setConnected.bitsReceived = s.bitsReceived := rfl
@[simp] theorem State.setConnected_commandAccumulator (s : State) :
    s.setConnected.commandAccumulator = s.commandAccumulator := rfl
@[simp] theorem State.setConnected_activeCommand (s : State) : s.setConnected.activeCommand = s.activeCommand := rfl
@[simp] theorem State.setConnected_repeatDeadline (s : State) :
    s.setConnected.repeatDeadline = s.repeatDeadline := rfl
@[simp] theorem State.setConnected_lastReportedCommand (s : State) :
    s.setConnected.lastReportedCommand = s.lastReportedCommand := rfl
@[simp] theorem State.setConnected_hasUnconsumedPress (s : State) :
    s.setConnected.hasUnconsumedPress = s.hasUnconsumedPress := rfl
@[simp] theorem State.setConnected_handlers (s : State) : s.setConnected.handlers = s.handlers := rfl
@[simp] theorem State.setConnected_watchDue (s : State) : s.setConnected.watchDue = s.watchDue := rfl
@[simp] theorem State.setConnected_cycle (s : State) : s.setConnected.cycle = s.cycle := rfl
@[simp] theorem State.setConnected_dres (s : State) : s.setConnected.dres = s.dres := rfl
@[simp] theorem State.setConnected_events (s : State) : s.setConnected.events = s.events := rfl
@[simp] theorem State.setConnected_out (s : State) : s.setConnected.out = s.out := rfl
@[simp] theorem State.setConnected_hostRsp (s : State) : s.setConnected.hostRsp = s.hostRsp := rfl
@[simp] theorem State.setConnected_cycles (s : State) : s.setConnected.cycles = s.cycles := rfl
@[simp] theorem State.setConnected_script (s : State) : s.setConnected.script = s.script := rfl
@[simp] theorem State.setConnected_now (s : State) : s.setConnected.now = s.now := rfl

/-! ## syncPulse -/

@[simp] theorem State.syncPulse_cfg (s : State) (r : DecodeResult) : (s.syncPulse r).cfg = s.cfg := rfl
@[simp] theorem State.syncPulse_connected (s : State) (r : DecodeResult) :
    (s.syncPulse r).connected = s.connected := rfl
@[simp] theorem State.syncPulse_protocol (s : State) (r : DecodeResult) : (s.syncPulse r).protocol = s.protocol := rfl
@[simp] theorem State.syncPulse_pinSel (s : State) (r : DecodeResult) : (s.syncPulse r).pinSel = s.pinSel := rfl
@[simp] theorem State.syncPulse_markLatch (s : State) (r : DecodeResult) :
    (s.syncPulse r).markLatch = s.markLatch := rfl
@[simp] theorem State.syncPulse_bitsReceived (s : State) (r : DecodeResult) : (s.syncPulse r).bitsReceived = 0 := rfl
@[simp] theorem State.syncPulse_commandAccumulator (s : State) (r : DecodeResult) :
    (s.syncPulse r).commandAccumulator = s.commandAccumulator := rfl
@[simp] theorem State.syncPulse_activeCommand (s : State) (r : DecodeResult) :
    (s.syncPulse r).activeCommand = s.activeCommand := rfl
@[simp] theorem State.syncPulse_repeatDeadline (s : State) (r : DecodeResult) :
    (s.syncPulse r).repeatDeadline = s.repeatDeadline := rfl
@[simp] theorem State.syncPulse_lastReportedCommand (s : State) (r : DecodeResult) :
    (s.syncPulse r).lastReportedCommand = s.lastReportedCommand := rfl
@[simp] theorem State.syncPulse_hasUnconsumedPress (s : State) (r : DecodeResult) :
    (s.syncPulse r).hasUnconsumedPress = s.hasUnconsumedPress := rfl
@[simp] theorem State.syncPulse_handlers (s : State) (r : DecodeResult) : (s.syncPulse r).handlers = s.handlers := rfl
@[simp] theorem State.syncPulse_watchDue (s : State) (r : DecodeResult) : (s.syncPulse r).watchDue = s.watchDue := rfl
@[simp] theorem State.syncPulse_cycle (s : State) (r : DecodeResult) : (s.syncPulse r).cycle = s.cycle := rfl
@[simp] theorem State.syncPulse_dres (s : State) (r : DecodeResult) : (s.syncPulse r).dres = some r := rfl
@[simp] theorem State.syncPulse_events (s : State) (r : DecodeResult) : (s.syncPulse r).events = s.events := rfl
@[simp] theorem State.syncPulse_out (s : State) (r : DecodeResult) : (s.syncPulse r).out = s.out := rfl
@[simp] theorem State.syncPulse_hostRsp (s : State) (r : DecodeResult) : (s.syncPulse r).hostRsp = s.hostRsp := rfl
@[simp] theorem State.syncPulse_cycles (s : State) (r : DecodeResult) : (s.syncPulse r).cycles = s.cycles := rfl
@[simp] theorem State.syncPulse_script (s : State) (r : DecodeResult) : (s.syncPulse r).script = s.script := rfl
@[simp] theorem State.syncPulse_now (s : State) (r : DecodeResult) : (s.syncPulse r).now = s.now := rfl

/-! ## countBit -/

@[simp] theorem State.countBit_cfg (s : State) : s.countBit.cfg = s.cfg := rfl
@[simp] theorem State.countBit_connected (s : State) : s.countBit.connected = s.connected := rfl
@[simp] theorem State.countBit_protocol (s : State) : s.countBit.protocol = s.protocol := rfl
@[simp] theorem State.countBit_pinSel (s : State) : s.countBit.pinSel = s.pinSel := rfl
@[simp] theorem State.countBit_markLatch (s : State) : s.countBit.markLatch = s.markLatch := rfl
@[simp] theorem State.countBit_bitsReceived (s : State) : s.countBit.bitsReceived = s.nextCount := rfl
@[simp] theorem State.countBit_commandAccumulator (s : State) :
    s.countBit.commandAccumulator = s.commandAccumulator := rfl
@[simp] theorem State.countBit_activeCommand (s : State) : s.countBit.activeCommand = s.activeCommand := rfl
@[simp] theorem State.countBit_repeatDeadline (s : State) : s.countBit.repeatDeadline = s.repeatDeadline := rfl
@[simp] theorem State.countBit_lastReportedCommand (s : State) :
    s.countBit.lastReportedCommand = s.lastReportedCommand := rfl
@[simp] theorem State.countBit_hasUnconsumedPress (s : State) :
    s.countBit.hasUnconsumedPress = s.hasUnconsumedPress := rfl
@[simp] theorem State.countBit_handlers (s : State) : s.countBit.handlers = s.handlers := rfl
@[simp] theorem State.countBit_watchDue (s : State) : s.countBit.watchDue = s.watchDue := rfl
@[simp] theorem State.countBit_cycle (s : State) : s.countBit.cycle = s.cycle := rfl
@[simp] theorem State.countBit_dres (s : State) : s.countBit.dres = some .incomplete := rfl
@[simp] theorem State.countBit_events (s : State) : s.countBit.events = s.events := rfl
@[simp] theorem State.countBit_out (s : State) : s.countBit.out = s.out := rfl
@[simp] theorem State.countBit_hostRsp (s : State) : s.countBit.hostRsp = s.hostRsp := rfl
@[simp] theorem State.countBit_cycles (s : State) : s.countBit.cycles = s.cycles := rfl
@[simp] theorem State.countBit_script (s : State) : s.countBit.script = s.script := rfl
@[simp] theorem State.countBit_now (s : State) : s.countBit.now = s.now := rfl

/-! ## resyncCount -/

@[simp] theorem State.resyncCount_cfg (s : State) : s.resyncCount.cfg = s.cfg := rfl
@[simp] theorem State.resyncCount_connected (s : State) : s.resyncCount.connected = s.connected := rfl
@[simp] theorem State.resyncCount_protocol (s : State) : s.resyncCount.protocol = s.protocol := rfl
@[simp] theorem State.resyncCount_pinSel (s : State) : s.resyncCount.pinSel = s.pinSel := rfl
@[simp] theorem State.resyncCount_markLatch (s : State) : s.resyncCount.markLatch = s.markLatch := rfl
@[simp] theorem State.resyncCount_bitsReceived (s : State) : s.resyncCount.bitsReceived = s.cfg.resyncTo := rfl
@[simp] theorem State.resyncCount_commandAccumulator (s : State) :
    s.resyncCount.commandAccumulator = s.commandAccumulator := rfl
@[simp] theorem State.resyncCount_activeCommand (s : State) : s.resyncCount.activeCommand = s.activeCommand := rfl
@[simp] theorem State.resyncCount_repeatDeadline (s : State) : s.resyncCount.repeatDeadline = s.repeatDeadline := rfl
@[simp] theorem State.resyncCount_lastReportedCommand (s : State) :
    s.resyncCount.lastReportedCommand = s.lastReportedCommand := rfl
@[simp] theorem State.resyncCount_hasUnconsumedPress (s : State) :
    s.resyncCount.hasUnconsumedPress = s.hasUnconsumedPress := rfl
@[simp] theorem State.resyncCount_handlers (s : State) : s.resyncCount.handlers = s.handlers := rfl
@[simp] theorem State.resyncCount_watchDue (s : State) : s.resyncCount.watchDue = s.watchDue := rfl
@[simp] theorem State.resyncCount_cycle (s : State) : s.resyncCount.cycle = s.cycle := rfl
@[simp] theorem State.resyncCount_dres (s : State) : s.resyncCount.dres = some .incomplete := rfl
@[simp] theorem State.resyncCount_events (s : State) : s.resyncCount.events = s.events := rfl
@[simp] theorem State.resyncCount_out (s : State) : s.resyncCount.out = s.out := rfl
@[simp] theorem State.resyncCount_hostRsp (s : State) : s.resyncCount.hostRsp = s.hostRsp := rfl
@[simp] theorem State.resyncCount_cycles (s : State) : s.resyncCount.cycles = s.cycles := rfl
@[simp] theorem State.resyncCount_script (s : State) : s.resyncCount.script = s.script := rfl
@[simp] theorem State.resyncCount_now (s : State) : s.resyncCount.now = s.now := rfl

/-! ## commandBit -/

@[simp] theorem State.commandBit_cfg (s : State) (b : Bool) : (s.commandBit b).cfg = s.cfg := rfl
@[simp] theorem State.commandBit_connected (s : State) (b : Bool) : (s.commandBit b).connected = s.connected := rfl
@[simp] theorem State.commandBit_protocol (s : State) (b : Bool) : (s.commandBit b).protocol = s.protocol := rfl
@[simp] theorem State.commandBit_pinSel (s : State) (b : Bool) : (s.commandBit b).pinSel = s.pinSel := rfl
@[simp] theorem State.commandBit_markLatch (s : State) (b : Bool) : (s.commandBit b).markLatch = s.markLatch := rfl
@[simp] theorem State.commandBit_bitsReceived (s : State) (b : Bool) :
    (s.commandBit b).bitsReceived = s.nextCount := rfl
@[simp] theorem State.commandBit_commandAccumulator (s : State) (b : Bool) :
    (s.commandBit b).commandAccumulator = shiftIn s.commandAccumulator b := rfl
@[simp] theorem State.commandBit_activeCommand (s : State) (b : Bool) :
    (s.commandBit b).activeCommand = s.activeCommand := rfl
@[simp] theorem State.commandBit_repeatDeadline (s : State) (b : Bool) :
    (s.commandBit b).repeatDeadline = s.repeatDeadline := rfl
@[simp] theorem State.commandBit_lastReportedCommand (s : State) (b : Bool) :
    (s.commandBit b).lastReportedCommand = s.lastReportedCommand := rfl
@[simp] theorem State.commandBit_hasUnconsumedPress (s : State) (b : Bool) :
    (s.commandBit b).hasUnconsumedPress = s.hasUnconsumedPress := rfl
@[simp] theorem State.commandBit_handlers (s : State) (b : Bool) : (s.commandBit b).handlers = s.handlers := rfl
@[simp] theorem State.commandBit_watchDue (s : State) (b : Bool) : (s.commandBit b).watchDue = s.watchDue := rfl
@[simp] theorem State.commandBit_cycle (s : State) (b : Bool) : (s.commandBit b).cycle = s.cycle := rfl
@[simp] theorem State.commandBit_dres (s : State) (b : Bool) : (s.commandBit b).dres = some .incomplete := rfl
@[simp] theorem State.commandBit_events (s : State) (b : Bool) : (s.commandBit b).events = s.events := rfl
@[simp] theorem State.commandBit_out (s : State) (b : Bool) : (s.commandBit b).out = s.out := rfl
@[simp] theorem State.commandBit_hostRsp (s : State) (b : Bool) : (s.commandBit b).hostRsp = s.hostRsp := rfl
@[simp] theorem State.commandBit_cycles (s : State) (b : Bool) : (s.commandBit b).cycles = s.cycles := rfl
@[simp] theorem State.commandBit_script (s : State) (b : Bool) : (s.commandBit b).script = s.script := rfl
@[simp] theorem State.commandBit_now (s : State) (b : Bool) : (s.commandBit b).now = s.now := rfl

/-! ## lastCommandBit -/

@[simp] theorem State.lastCommandBit_cfg (s : State) (b : Bool) : (s.lastCommandBit b).cfg = s.cfg := rfl
@[simp] theorem State.lastCommandBit_connected (s : State) (b : Bool) :
    (s.lastCommandBit b).connected = s.connected := rfl
@[simp] theorem State.lastCommandBit_protocol (s : State) (b : Bool) :
    (s.lastCommandBit b).protocol = s.protocol := rfl
@[simp] theorem State.lastCommandBit_pinSel (s : State) (b : Bool) : (s.lastCommandBit b).pinSel = s.pinSel := rfl
@[simp] theorem State.lastCommandBit_markLatch (s : State) (b : Bool) :
    (s.lastCommandBit b).markLatch = s.markLatch := rfl
@[simp] theorem State.lastCommandBit_bitsReceived (s : State) (b : Bool) :
    (s.lastCommandBit b).bitsReceived = s.nextCount := rfl
@[simp] theorem State.lastCommandBit_commandAccumulator (s : State) (b : Bool) :
    (s.lastCommandBit b).commandAccumulator = shiftIn s.commandAccumulator b := rfl
@[simp] theorem State.lastCommandBit_activeCommand (s : State) (b : Bool) :
    (s.lastCommandBit b).activeCommand = s.activeCommand := rfl
@[simp] theorem State.lastCommandBit_repeatDeadline (s : State) (b : Bool) :
    (s.lastCommandBit b).repeatDeadline = s.repeatDeadline := rfl
@[simp] theorem State.lastCommandBit_lastReportedCommand (s : State) (b : Bool) :
    (s.lastCommandBit b).lastReportedCommand = s.lastReportedCommand := rfl
@[simp] theorem State.lastCommandBit_hasUnconsumedPress (s : State) (b : Bool) :
    (s.lastCommandBit b).hasUnconsumedPress = s.hasUnconsumedPress := rfl
@[simp] theorem State.lastCommandBit_handlers (s : State) (b : Bool) :
    (s.lastCommandBit b).handlers = s.handlers := rfl
@[simp] theorem State.lastCommandBit_watchDue (s : State) (b : Bool) :
    (s.lastCommandBit b).watchDue = s.watchDue := rfl
@[simp] theorem State.lastCommandBit_cycle (s : State) (b : Bool) : (s.lastCommandBit b).cycle = s.cycle := rfl
@[simp] theorem State.lastCommandBit_dres (s : State) (b : Bool) :
    (s.lastCommandBit b).dres = some (.command (shiftIn s.commandAccumulator b)) := rfl
@[simp] theorem State.lastCommandBit_events (s : State) (b : Bool) : (s.lastCommandBit b).events = s.events := rfl
@[simp] theorem State.lastCommandBit_out (s : State) (b : Bool) : (s.lastCommandBit b).out = s.out := rfl
@[simp] theorem State.lastCommandBit_hostRsp (s : State) (b : Bool) : (s.lastCommandBit b).hostRsp = s.hostRsp := rfl
@[simp] theorem State.lastCommandBit_cycles (s : State) (b : Bool) : (s.lastCommandBit b).cycles = s.cycles := rfl
@[simp] theorem State.lastCommandBit_script (s : State) (b : Bool) : (s.lastCommandBit b).script = s.script := rfl
@[simp] theorem State.lastCommandBit_now (s : State) (b : Bool) : (s.lastCommandBit b).now = s.now := rfl

/-! ## refreshDeadline -/

@[simp] theorem State.refreshDeadline_cfg (s : State) : s.refreshDeadline.cfg = s.cfg := rfl
@[simp] theorem State.refreshDeadline_connected (s : State) : s.refreshDeadline.connected = s.connected := rfl
@[simp] theorem State.refreshDeadline_protocol (s : State) : s.refreshDeadline.protocol = s.protocol := rfl
@[simp] theorem State.refreshDeadline_pinSel (s : State) : s.refreshDeadline.pinSel = s.pinSel := rfl
@[simp] theorem State.refreshDeadline_markLatch (s : State) : s.refreshDeadline.markLatch = s.markLatch := rfl
@[simp] theorem State.refreshDeadline_bitsReceived (s : State) :
    s.refreshDeadline.bitsReceived = s.bitsReceived := rfl
@[simp] theorem State.refreshDeadline_commandAccumulator (s : State) :
    s.refreshDeadline.commandAccumulator = s.commandAccumulator := rfl
@[simp] theorem State.refreshDeadline_activeCommand (s : State) :
    s.refreshDeadline.activeCommand = s.activeCommand := rfl
@[simp] theorem State.refreshDeadline_repeatDeadline (s : State) :
    s.refreshDeadline.repeatDeadline = later s.now s.cfg.repeatTimeout := rfl
@[simp] theorem State.refreshDeadline_lastReportedCommand (s : State) :
    s.refreshDeadline.lastReportedCommand = s.lastReportedCommand := rfl
@[simp] theorem State.refreshDeadline_hasUnconsumedPress (s : State) :
    s.refreshDeadline.hasUnconsumedPress = s.hasUnconsumedPress := rfl
@[simp] theorem State.refreshDeadline_handlers (s : State) : s.refreshDeadline.handlers = s.handlers := rfl
@[simp] theorem State.refreshDeadline_watchDue (s : State) : s.refreshDeadline.watchDue = s.watchDue := rfl
@[simp] theorem State.refreshDeadline_cycle (s : State) : s.refreshDeadline.cycle = s.cycle := rfl
@[simp] theorem State.refreshDeadline_dres (s : State) : s.refreshDeadline.dres = s.dres := rfl
@[simp] theorem State.refreshDeadline_events (s : State) : s.refreshDeadline.events = s.events := rfl
@[simp] theorem State.refreshDeadline_out (s : State) : s.refreshDeadline.out = s.out := rfl
@[simp] theorem State.refreshDeadline_hostRsp (s : State) : s.refreshDeadline.hostRsp = s.hostRsp := rfl
@[simp] theorem State.refreshDeadline_cycles (s : State) : s.refreshDeadline.cycles = s.cycles := rfl
@[simp] theorem State.refreshDeadline_script (s : State) : s.refreshDeadline.script = s.script := rfl
@[simp] theorem State.refreshDeadline_now (s : State) : s.refreshDeadline.now = s.now := rfl

/-! ## emit -/

@[simp] theorem State.emit_cfg (s : State) (a : Action) (c : Code) : (s.emit a c).cfg = s.cfg := rfl
@[simp] theorem State.emit_connected (s : State) (a : Action) (c : Code) : (s.emit a c).connected = s.connected := rfl
@[simp] theorem State.emit_protocol (s : State) (a : Action) (c : Code) : (s.emit a c).protocol = s.protocol := rfl
@[simp] theorem State.emit_pinSel (s : State) (a : Action) (c : Code) : (s.emit a c).pinSel = s.pinSel := rfl
@[simp] theorem State.emit_markLatch (s : State) (a : Action) (c : Code) : (s.emit a c).markLatch = s.markLatch := rfl
@[simp] theorem State.emit_bitsReceived (s : State) (a : Action) (c : Code) :
    (s.emit a c).bitsReceived = s.bitsReceived := rfl
@[simp] theorem State.emit_commandAccumulator (s : State) (a : Action) (c : Code) :
    (s.emit a c).commandAccumulator = s.commandAccumulator := rfl
@[simp] theorem State.emit_activeCommand (s : State) (a : Action) (c : Code) :
    (s.emit a c).activeCommand = s.activeCommand := rfl
@[simp] theorem State.emit_repeatDeadline (s : State) (a : Action) (c : Code) :
    (s.emit a c).repeatDeadline = s.repeatDeadline := rfl
@[simp] theorem State.emit_lastReportedCommand (s : State) (a : Action) (c : Code) :
    (s.emit a c).lastReportedCommand = s.lastReportedCommand := rfl
@[simp] theorem State.emit_hasUnconsumedPress (s : State) (a : Action) (c : Code) :
    (s.emit a c).hasUnconsumedPress = s.hasUnconsumedPress := rfl
@[simp] theorem State.emit_handlers (s : State) (a : Action) (c : Code) : (s.emit a c).handlers = s.handlers := rfl
@[simp] theorem State.emit_watchDue (s : State) (a : Action) (c : Code) : (s.emit a c).watchDue = s.watchDue := rfl
@[simp] theorem State.emit_cycle (s : State) (a : Action) (c : Code) : (s.emit a c).cycle = s.cycle := rfl
@[simp] theorem State.emit_dres (s : State) (a : Action) (c : Code) : (s.emit a c).dres = s.dres := rfl
@[simp] theorem State.emit_events (s : State) (a : Action) (c : Code) :
    (s.emit a c).events = s.events ++ [{ action := a, code := c }] := rfl
@[simp] theorem State.emit_out (s : State) (a : Action) (c : Code) : (s.emit a c).out = s.out := rfl
@[simp] theorem State.emit_hostRsp (s : State) (a : Action) (c : Code) : (s.emit a c).hostRsp = s.hostRsp := rfl
@[simp] theorem State.emit_cycles (s : State) (a : Action) (c : Code) : (s.emit a c).cycles = s.cycles := rfl
@[simp] theorem State.emit_script (s : State) (a : Action) (c : Code) : (s.emit a c).script = s.script := rfl
@[simp] theorem State.emit_now (s : State) (a : Action) (c : Code) : (s.emit a c).now = s.now := rfl

/-! ## reloadWatch -/

@[simp] theorem State.reloadWatch_cfg (s : State) : s.reloadWatch.cfg = s.cfg := rfl
@[simp] theorem State.reloadWatch_connected (s : State) : s.reloadWatch.connected = s.connected := rfl
@[simp] theorem State.reloadWatch_protocol (s : State) : s.reloadWatch.protocol = s.protocol := rfl
@[simp] theorem State.reloadWatch_pinSel (s : State) : s.reloadWatch.pinSel = s.pinSel := rfl
@[simp] theorem State.reloadWatch_markLatch (s : State) : s.reloadWatch.markLatch = s.markLatch := rfl
@[simp] theorem State.reloadWatch_bitsReceived (s : State) : s.reloadWatch.bitsReceived = s.bitsReceived := rfl
@[simp] theorem State.reloadWatch_commandAccumulator (s : State) :
    s.reloadWatch.commandAccumulator = s.commandAccumulator := rfl
@[simp] theorem State.reloadWatch_activeCommand (s : State) : s.reloadWatch.activeCommand = s.activeCommand := rfl
@[simp] theorem State.reloadWatch_repeatDeadline (s : State) : s.reloadWatch.repeatDeadline = s.repeatDeadline := rfl
@[simp] theorem State.reloadWatch_lastReportedCommand (s : State) :
    s.reloadWatch.lastReportedCommand = s.lastReportedCommand := rfl
@[simp] theorem State.reloadWatch_hasUnconsumedPress (s : State) :
    s.reloadWatch.hasUnconsumedPress = s.hasUnconsumedPress := rfl
@[simp] theorem State.reloadWatch_handlers (s : State) : s.reloadWatch.handlers = s.handlers := rfl
@[simp] theorem State.reloadWatch_watchDue (s : State) : s.reloadWatch.watchDue = later s.now s.watchPeriod := rfl
@[simp] theorem State.reloadWatch_cycle (s : State) : s.reloadWatch.cycle = s.cycle := rfl
@[simp] theorem State.reloadWatch_dres (s : State) : s.reloadWatch.dres = s.dres := rfl
@[simp] theorem State.reloadWatch_events (s : State) : s.reloadWatch.events = s.events := rfl
@[simp] theorem State.reloadWatch_out (s : State) : s.reloadWatch.out = s.out := rfl
@[simp] theorem State.reloadWatch_hostRsp (s : State) : s.reloadWatch.hostRsp = s.hostRsp := rfl
@[simp] theorem State.reloadWatch_cycles (s : State) : s.reloadWatch.cycles = s.cycles := rfl
@[simp] theorem State.reloadWatch_script (s : State) : s.reloadWatch.script = s.script := rfl
@[simp] theorem State.reloadWatch_now (s : State) : s.reloadWatch.now = s.now := rfl

/-! ## dispatch -/

@[simp] theorem State.dispatch_cfg (s : State) : s.dispatch.cfg = s.cfg := rfl
@[simp] theorem State.dispatch_connected (s : State) : s.dispatch.connected = s.connected := rfl
@[simp] theorem State.dispatch_protocol (s : State) : s.dispatch.protocol = s.protocol := rfl
@[simp] theorem State.dispatch_pinSel (s : State) : s.dispatch.pinSel = s.pinSel := rfl
@[simp] theorem State.dispatch_markLatch (s : State) : s.dispatch.markLatch = s.markLatch := rfl
@[simp] theorem State.dispatch_bitsReceived (s : State) : s.dispatch.bitsReceived = s.bitsReceived := rfl
@[simp] theorem State.dispatch_commandAccumulator (s : State) :
    s.dispatch.commandAccumulator = s.commandAccumulator := rfl
@[simp] theorem State.dispatch_activeCommand (s : State) : s.dispatch.activeCommand = s.activeCommand := rfl
@[simp] theorem State.dispatch_repeatDeadline (s : State) : s.dispatch.repeatDeadline = s.repeatDeadline := rfl
@[simp] theorem State.dispatch_lastReportedCommand (s : State) :
    s.dispatch.lastReportedCommand = s.lastReportedCommand := rfl
@[simp] theorem State.dispatch_hasUnconsumedPress (s : State) :
    s.dispatch.hasUnconsumedPress = s.hasUnconsumedPress := rfl
@[simp] theorem State.dispatch_handlers (s : State) : s.dispatch.handlers = s.handlers := rfl
@[simp] theorem State.dispatch_watchDue (s : State) : s.dispatch.watchDue = s.watchDue := rfl
@[simp] theorem State.dispatch_cycle (s : State) : s.dispatch.cycle = s.cycle := rfl
@[simp] theorem State.dispatch_dres (s : State) : s.dispatch.dres = s.dres := rfl
@[simp] theorem State.dispatch_events (s : State) : s.dispatch.events = s.events := rfl
@[simp] theorem State.dispatch_out (s : State) :
    s.dispatch.out = dispatchAll s.cfg.handlerOrder s.handlers s.events := rfl
@[simp] theorem State.dispatch_hostRsp (s : State) : s.dispatch.hostRsp = s.hostRsp := rfl
@[simp] theorem State.dispatch_cycles (s : State) : s.dispatch.cycles = s.cycles := rfl
@[simp] theorem State.dispatch_script (s : State) : s.dispatch.script = s.script := rfl
@[simp] theorem State.dispatch_now (s : State) : s.dispatch.now = s.now := rfl

/-! ## dispatchEvent -/

@[simp] theorem State.dispatchEvent_cfg (s : State) (a : Action) (c : Code) : (s.dispatchEvent a c).cfg = s.cfg := rfl
@[simp] theorem State.dispatchEvent_connected (s : State) (a : Action) (c : Code) :
    (s.dispatchEvent a c).connected = s.connected := rfl
@[simp] theorem State.dispatchEvent_protocol (s : State) (a : Action) (c : Code) :
    (s.dispatchEvent a c).protocol = s.protocol := rfl
@[simp] theorem State.dispatchEvent_pinSel (s : State) (a : Action) (c : Code) :
    (s.dispatchEvent a c).pinSel = s.pinSel := rfl
@[simp] theorem State.dispatchEvent_markLatch (s : State) (a : Action) (c : Code) :
    (s.dispatchEvent a c).markLatch = s.markLatch := rfl
@[simp] theorem State.dispatchEvent_bitsReceived (s : State) (a : Action) (c : Code) :
    (s.dispatchEvent a c).bitsReceived = s.bitsReceived := rfl
@[simp] theorem State.dispatchEvent_commandAccumulator (s : State) (a : Action) (c : Code) :
    (s.dispatchEvent a c).commandAccumulator = s.commandAccumulator := rfl
@[simp] theorem State.dispatchEvent_activeCommand (s : State) (a : Action) (c : Code) :
    (s.dispatchEvent a c).activeCommand = s.activeCommand := rfl
@[simp] theorem State.dispatchEvent_repeatDeadline (s : State) (a : Action) (c : Code) :
    (s.dispatchEvent a c).repeatDeadline = s.repeatDeadline := rfl
@[simp] theorem State.dispatchEvent_lastReportedCommand (s : State) (a : Action) (c : Code) :
    (s.dispatchEvent a c).lastReportedCommand = s.lastReportedCommand := rfl
@[simp] theorem State.dispatchEvent_hasUnconsumedPress (s : State) (a : Action) (c : Code) :
    (s.dispatchEvent a c).hasUnconsumedPress = s.hasUnconsumedPress := rfl
@[simp] theorem State.dispatchEvent_handlers (s : State) (a : Action) (c : Code) :
    (s.dispatchEvent a c).handlers = s.handlers := rfl
@[simp] theorem State.dispatchEvent_watchDue (s : State) (a : Action) (c : Code) :
    (s.dispatchEvent a c).watchDue = s.watchDue := rfl
@[simp] theorem State.dispatchEvent_cycle (s : State) (a : Action) (c : Code) :
    (s.dispatchEvent a c).cycle = s.cycle := rfl
@[simp] theorem State.dispatchEvent_dres (s : State) (a : Action) (c : Code) :
    (s.dispatchEvent a c).dres = s.dres := rfl
@[simp] theorem State.dispatchEvent_events (s : State) (a : Action) (c : Code) :
    (s.dispatchEvent a c).events = s.events := rfl
@[simp] theorem State.dispatchEvent_out (s : State) (a : Action) (c : Code) :
    (s.dispatchEvent a c).out = dispatchOne s.cfg.handlerOrder s.handlers a c := rfl
@[simp] theorem State.dispatchEvent_hostRsp (s : State) (a : Action) (c : Code) :
    (s.dispatchEvent a c).hostRsp = s.hostRsp := rfl
@[simp] theorem State.dispatchEvent_cycles (s : State) (a : Action) (c : Code) :
    (s.dispatchEvent a c).cycles = s.cycles := rfl
@[simp] theorem State.dispatchEvent_script (s : State) (a : Action) (c : Code) :
    (s.dispatchEvent a c).script = s.script := rfl
@[simp] theorem State.dispatchEvent_now (s : State) (a : Action) (c : Code) : (s.dispatchEvent a c).now = s.now := rfl

/-! ## configure -/

@[simp] theorem State.configure_cfg (s : State) (v : Protocol) (p : Pin) : (s.configure v p).cfg = s.cfg := rfl
@[simp] theorem State.configure_connected (s : State) (v : Protocol) (p : Pin) :
    (s.configure v p).connected = true := rfl
@[simp] theorem State.configure_protocol (s : State) (v : Protocol) (p : Pin) : (s.configure v p).protocol = v := rfl
@[simp] theorem State.configure_pinSel (s : State) (v : Protocol) (p : Pin) : (s.configure v p).pinSel = p := rfl
@[simp] theorem State.configure_markLatch (s : State) (v : Protocol) (p : Pin) :
    (s.configure v p).markLatch = s.markLatch := rfl
@[simp] theorem State.configure_bitsReceived (s : State) (v : Protocol) (p : Pin) :
    (s.configure v p).bitsReceived = s.bitsReceived := rfl
@[simp] theorem State.configure_commandAccumulator (s : State) (v : Protocol) (p : Pin) :
    (s.configure v p).commandAccumulator = s.commandAccumulator := rfl
@[simp] theorem State.configure_activeCommand (s : State) (v : Protocol) (p : Pin) :
    (s.configure v p).activeCommand = s.activeCommand := rfl
@[simp] theorem State.configure_repeatDeadline (s : State) (v : Protocol) (p : Pin) :
    (s.configure v p).repeatDeadline = s.repeatDeadline := rfl
@[simp] theorem State.configure_lastReportedCommand (s : State) (v : Protocol) (p : Pin) :
    (s.configure v p).lastReportedCommand = s.lastReportedCommand := rfl
@[simp] theorem State.configure_hasUnconsumedPress (s : State) (v : Protocol) (p : Pin) :
    (s.configure v p).hasUnconsumedPress = s.hasUnconsumedPress := rfl
@[simp] theorem State.configure_handlers (s : State) (v : Protocol) (p : Pin) :
    (s.configure v p).handlers = s.handlers := rfl
@[simp] theorem State.configure_watchDue (s : State) (v : Protocol) (p : Pin) :
    (s.configure v p).watchDue = later s.now s.cfg.watchIdle := rfl
@[simp] theorem State.configure_cycle (s : State) (v : Protocol) (p : Pin) : (s.configure v p).cycle = s.cycle := rfl
@[simp] theorem State.configure_dres (s : State) (v : Protocol) (p : Pin) : (s.configure v p).dres = s.dres := rfl
@[simp] theorem State.configure_events (s : State) (v : Protocol) (p : Pin) :
    (s.configure v p).events = s.events := rfl
@[simp] theorem State.configure_out (s : State) (v : Protocol) (p : Pin) : (s.configure v p).out = s.out := rfl
@[simp] theorem State.configure_hostRsp (s : State) (v : Protocol) (p : Pin) :
    (s.configure v p).hostRsp = s.hostRsp := rfl
@[simp] theorem State.configure_cycles (s : State) (v : Protocol) (p : Pin) :
    (s.configure v p).cycles = s.cycles := rfl
@[simp] theorem State.configure_script (s : State) (v : Protocol) (p : Pin) :
    (s.configure v p).script = s.script := rfl
@[simp] theorem State.configure_now (s : State) (v : Protocol) (p : Pin) : (s.configure v p).now = s.now := rfl

/-! ## respond -/

@[simp] theorem State.respond_cfg (s : State) (w : RspWord) : (s.respond w).cfg = s.cfg := rfl
@[simp] theorem State.respond_connected (s : State) (w : RspWord) : (s.respond w).connected = s.connected := rfl
@[simp] theorem State.respond_protocol (s : State) (w : RspWord) : (s.respond w).protocol = s.protocol := rfl
@[simp] theorem State.respond_pinSel (s : State) (w : RspWord) : (s.respond w).pinSel = s.pinSel := rfl
@[simp] theorem State.respond_markLatch (s : State) (w : RspWord) : (s.respond w).markLatch = s.markLatch := rfl
@[simp] theorem State.respond_bitsReceived (s : State) (w : RspWord) :
    (s.respond w).bitsReceived = s.bitsReceived := rfl
@[simp] theorem State.respond_commandAccumulator (s : State) (w : RspWord) :
    (s.respond w).commandAccumulator = s.commandAccumulator := rfl
@[simp] theorem State.respond_activeCommand (s : State) (w : RspWord) :
    (s.respond w).activeCommand = s.activeCommand := rfl
@[simp] theorem State.respond_repeatDeadline (s : State) (w : RspWord) :
    (s.respond w).repeatDeadline = s.repeatDeadline := rfl
@[simp] theorem State.respond_lastReportedCommand (s : State) (w : RspWord) :
    (s.respond w).lastReportedCommand = s.lastReportedCommand := rfl
@[simp] theorem State.respond_hasUnconsumedPress (s : State) (w : RspWord) :
    (s.respond w).hasUnconsumedPress = s.hasUnconsumedPress := rfl
@[simp] theorem State.respond_handlers (s : State) (w : RspWord) : (s.respond w).handlers = s.handlers := rfl
@[simp] theorem State.respond_watchDue (s : State) (w : RspWord) : (s.respond w).watchDue = s.watchDue := rfl
@[simp] theorem State.respond_cycle (s : State) (w : RspWord) : (s.respond w).cycle = s.cycle := rfl
@[simp] theorem State.respond_dres (s : State) (w : RspWord) : (s.respond w).dres = s.dres := rfl
@[simp] theorem State.respond_events (s : State) (w : RspWord) : (s.respond w).events = s.events := rfl
@[simp] theorem State.respond_out (s : State) (w : RspWord) : (s.respond w).out = s.out := rfl
@[simp] theorem State.respond_hostRsp (s : State) (w : RspWord) : (s.respond w).hostRsp = w := rfl
@[simp] theorem State.respond_cycles (s : State) (w : RspWord) : (s.respond w).cycles = s.cycles := rfl
@[simp] theorem State.respond_script (s : State) (w : RspWord) : (s.respond w).script = s.script := rfl
@[simp] theorem State.respond_now (s : State) (w : RspWord) : (s.respond w).now = s.now := rfl

/-! ## takePulse -/

@[simp] theorem State.takePulse_cfg (s : State) : s.takePulse.cfg = s.cfg := rfl
@[simp] theorem State.takePulse_connected (s : State) : s.takePulse.connected = s.connected := rfl
@[simp] theorem State.takePulse_protocol (s : State) : s.takePulse.protocol = s.protocol := rfl
@[simp] theorem State.takePulse_pinSel (s : State) : s.takePulse.pinSel = s.pinSel := rfl
@[simp] theorem State.takePulse_markLatch (s : State) : s.takePulse.markLatch = s.markLatch := rfl
@[simp] theorem State.takePulse_bitsReceived (s : State) : s.takePulse.bitsReceived = s.bitsReceived := rfl
@[simp] theorem State.takePulse_commandAccumulator (s : State) :
    s.takePulse.commandAccumulator = s.commandAccumulator := rfl
@[simp] theorem State.takePulse_activeCommand (s : State) : s.takePulse.activeCommand = s.activeCommand := rfl
@[simp] theorem State.takePulse_repeatDeadline (s : State) : s.takePulse.repeatDeadline = s.repeatDeadline := rfl
@[simp] theorem State.takePulse_lastReportedCommand (s : State) :
    s.takePulse.lastReportedCommand = s.lastReportedCommand := rfl
@[simp] theorem State.takePulse_hasUnconsumedPress (s : State) :
    s.takePulse.hasUnconsumedPress = s.hasUnconsumedPress := rfl
@[simp] theorem State.takePulse_handlers (s : State) : s.takePulse.handlers = s.handlers := rfl
@[simp] theorem State.takePulse_watchDue (s : State) : s.takePulse.watchDue = s.watchDue := rfl
@[simp] theorem State.takePulse_cycle (s : State) : s.takePulse.cycle = { s.cycle with pulse := none } := rfl
@[simp] theorem State.takePulse_dres (s : State) : s.takePulse.dres = s.dres := rfl
@[simp] theorem State.takePulse_events (s : State) : s.takePulse.events = s.events := rfl
@[simp] theorem State.takePulse_out (s : State) : s.takePulse.out = s.out := rfl
@[simp] theorem State.takePulse_hostRsp (s : State) : s.takePulse.hostRsp = s.hostRsp := rfl
@[simp] theorem State.takePulse_cycles (s : State) : s.takePulse.cycles = s.cycles := rfl
@[simp] theorem State.takePulse_script (s : State) : s.takePulse.script = s.script := rfl
@[simp] theorem State.takePulse_nextCount (s : State) : s.takePulse.nextCount = s.nextCount := rfl
@[simp] theorem State.takePulse_select (s : State) : s.takePulse.select = s.select := rfl
@[simp] theorem State.takePulse_phase (s : State) (b : Bool) : s.takePulse.phase b = s.phase b := rfl

/-! ## takeHost -/

@[simp] theorem State.takeHost_cfg (s : State) : s.takeHost.cfg = s.cfg := rfl
@[simp] theorem State.takeHost_connected (s : State) : s.takeHost.connected = s.connected := rfl
@[simp] theorem State.takeHost_protocol (s : State) : s.takeHost.protocol = s.protocol := rfl
@[simp] theorem State.takeHost_pinSel (s : State) : s.takeHost.pinSel = s.pinSel := rfl
@[simp] theorem State.takeHost_markLatch (s : State) : s.takeHost.markLatch = s.markLatch := rfl
@[simp] theorem State.takeHost_bitsReceived (s : State) : s.takeHost.bitsReceived = s.bitsReceived := rfl
@[simp] theorem State.takeHost_commandAccumulator (s : State) :
    s.takeHost.commandAccumulator = s.commandAccumulator := rfl
@[simp] theorem State.takeHost_activeCommand (s : State) : s.takeHost.activeCommand = s.activeCommand := rfl
@[simp] theorem State.takeHost_repeatDeadline (s : State) : s.takeHost.repeatDeadline = s.repeatDeadline := rfl
@[simp] theorem State.takeHost_lastReportedCommand (s : State) :
    s.takeHost.lastReportedCommand = s.lastReportedCommand := rfl
@[simp] theorem State.takeHost_hasUnconsumedPress (s : State) :
    s.takeHost.hasUnconsumedPress = s.hasUnconsumedPress := rfl
@[simp] theorem State.takeHost_handlers (s : State) : s.takeHost.handlers = s.handlers := rfl
@[simp] theorem State.takeHost_watchDue (s : State) : s.takeHost.watchDue = s.watchDue := rfl
@[simp] theorem State.takeHost_cycle (s : State) : s.takeHost.cycle = { s.cycle with host := none } := rfl
@[simp] theorem State.takeHost_dres (s : State) : s.takeHost.dres = s.dres := rfl
@[simp] theorem State.takeHost_events (s : State) : s.takeHost.events = s.events := rfl
@[simp] theorem State.takeHost_out (s : State) : s.takeHost.out = s.out := rfl
@[simp] theorem State.takeHost_hostRsp (s : State) : s.takeHost.hostRsp = s.hostRsp := rfl
@[simp] theorem State.takeHost_cycles (s : State) : s.takeHost.cycles = s.cycles := rfl
@[simp] theorem State.takeHost_script (s : State) : s.takeHost.script = s.script := rfl
@[simp] theorem State.takeHost_nextCount (s : State) : s.takeHost.nextCount = s.nextCount := rfl
@[simp] theorem State.takeHost_select (s : State) : s.takeHost.select = s.select := rfl
@[simp] theorem State.takeHost_phase (s : State) (b : Bool) : s.takeHost.phase b = s.phase b := rfl

/-! ## takeScript -/

@[simp] theorem State.takeScript_cfg (s : State) (l : ScriptLine) (rest : List ScriptLine) :
    (s.takeScript l rest).cfg = s.cfg := rfl
@[simp] theorem State.takeScript_connected (s : State) (l : ScriptLine) (rest : List ScriptLine) :
    (s.takeScript l rest).connected = s.connected := rfl
@[simp] theorem State.takeScript_protocol (s : State) (l : ScriptLine) (rest : List ScriptLine) :
    (s.takeScript l rest).protocol = s.protocol := rfl
@[simp] theorem State.takeScript_pinSel (s : State) (l : ScriptLine) (rest : List ScriptLine) :
    (s.takeScript l rest).pinSel = s.pinSel := rfl
@[simp] theorem State.takeScript_markLatch (s : State) (l : ScriptLine) (rest : List ScriptLine) :
    (s.takeScript l rest).markLatch = s.markLatch := rfl
@[simp] theorem State.takeScript_bitsReceived (s : State) (l : ScriptLine) (rest : List ScriptLine) :
    (s.takeScript l rest).bitsReceived = s.bitsReceived := rfl
@[simp] theorem State.takeScript_commandAccumulator (s : State) (l : ScriptLine) (rest : List ScriptLine) :
    (s.takeScript l rest).commandAccumulator = s.commandAccumulator := rfl
@[simp] theorem State.takeScript_activeCommand (s : State) (l : ScriptLine) (rest : List ScriptLine) :
    (s.takeScript l rest).activeCommand = s.activeCommand := rfl
@[simp] theorem State.takeScript_repeatDeadline (s : State) (l : ScriptLine) (rest : List ScriptLine) :
    (s.takeScript l rest).repeatDeadline = s.repeatDeadline := rfl
@[simp] theorem State.takeScript_lastReportedCommand (s : State) (l : ScriptLine) (rest : List ScriptLine) :
    (s.takeScript l rest).lastReportedCommand = s.lastReportedCommand := rfl
@[simp] theorem State.takeScript_hasUnconsumedPress (s : State) (l : ScriptLine) (rest : List ScriptLine) :
    (s.takeScript l rest).hasUnconsumedPress = s.hasUnconsumedPress := rfl
@[simp] theorem State.takeScript_handlers (s : State) (l : ScriptLine) (rest : List ScriptLine) :
    (s.takeScript l rest).handlers = s.handlers := rfl
@[simp] theorem State.takeScript_watchDue (s : State) (l : ScriptLine) (rest : List ScriptLine) :
    (s.takeScript l rest).watchDue = s.watchDue := rfl
@[simp] theorem State.takeScript_cycle (s : State) (l : ScriptLine) (rest : List ScriptLine) :
    (s.takeScript l rest).cycle = { s.cycle with now := l.now } := rfl
@[simp] theorem State.takeScript_dres (s : State) (l : ScriptLine) (rest : List ScriptLine) :
    (s.takeScript l rest).dres = s.dres := rfl
@[simp] theorem State.takeScript_events (s : State) (l : ScriptLine) (rest : List ScriptLine) :
    (s.takeScript l rest).events = s.events := rfl
@[simp] theorem State.takeScript_out (s : State) (l : ScriptLine) (rest : List ScriptLine) :
    (s.takeScript l rest).out = s.out := rfl
@[simp] theorem State.takeScript_hostRsp (s : State) (l : ScriptLine) (rest : List ScriptLine) :
    (s.takeScript l rest).hostRsp = s.hostRsp := rfl
@[simp] theorem State.takeScript_cycles (s : State) (l : ScriptLine) (rest : List ScriptLine) :
    (s.takeScript l rest).cycles = s.cycles := rfl
@[simp] theorem State.takeScript_script (s : State) (l : ScriptLine) (rest : List ScriptLine) :
    (s.takeScript l rest).script = rest := rfl
@[simp] theorem State.takeScript_nextCount (s : State) (l : ScriptLine) (rest : List ScriptLine) : (s.takeScript l rest).nextCount = s.nextCount := rfl
@[simp] theorem State.takeScript_select (s : State) (l : ScriptLine) (rest : List ScriptLine) : (s.takeScript l rest).select = s.select := rfl
@[simp] theorem State.takeScript_phase (s : State) (l : ScriptLine) (rest : List ScriptLine) (b : Bool) : (s.takeScript l rest).phase b = s.phase b := rfl

/-! ## withInput -/

@[simp] theorem State.withInput_cfg (s : State) (w : BusWord) : (s.withInput w).cfg = s.cfg := rfl
@[simp] theorem State.withInput_connected (s : State) (w : BusWord) : (s.withInput w).connected = s.connected := rfl
@[simp] theorem State.withInput_protocol (s : State) (w : BusWord) : (s.withInput w).protocol = s.protocol := rfl
@[simp] theorem State.withInput_pinSel (s : State) (w : BusWord) : (s.withInput w).pinSel = s.pinSel := rfl
@[simp] theorem State.withInput_markLatch (s : State) (w : BusWord) : (s.withInput w).markLatch = s.markLatch := rfl
@[simp] theorem State.withInput_bitsReceived (s : State) (w : BusWord) :
    (s.withInput w).bitsReceived = s.bitsReceived := rfl
@[simp] theorem State.withInput_commandAccumulator (s : State) (w : BusWord) :
    (s.withInput w).commandAccumulator = s.commandAccumulator := rfl
@[simp] theorem State.withInput_activeCommand (s : State) (w : BusWord) :
    (s.withInput w).activeCommand = s.activeCommand := rfl
@[simp] theorem State.withInput_repeatDeadline (s : State) (w : BusWord) :
    (s.withInput w).repeatDeadline = s.repeatDeadline := rfl
@[simp] theorem State.withInput_lastReportedCommand (s : State) (w : BusWord) :
    (s.withInput w).lastReportedCommand = s.lastReportedCommand := rfl
@[simp] theorem State.withInput_hasUnconsumedPress (s : State) (w : BusWord) :
    (s.withInput w).hasUnconsumedPress = s.hasUnconsumedPress := rfl
@[simp] theorem State.withInput_handlers (s : State) (w : BusWord) : (s.withInput w).handlers = s.handlers := rfl
@[simp] theorem State.withInput_watchDue (s : State) (w : BusWord) : (s.withInput w).watchDue = s.watchDue := rfl
@[simp] theorem State.withInput_cycle (s : State) (w : BusWord) :
    (s.withInput w).cycle = { s.cycle with rst := false } := rfl
@[simp] theorem State.withInput_dres (s : State) (w : BusWord) : (s.withInput w).dres = s.dres := rfl
@[simp] theorem State.withInput_events (s : State) (w : BusWord) : (s.withInput w).events = s.events := rfl
@[simp] theorem State.withInput_out (s : State) (w : BusWord) : (s.withInput w).out = s.out := rfl
@[simp] theorem State.withInput_hostRsp (s : State) (w : BusWord) : (s.withInput w).hostRsp = s.hostRsp := rfl
@[simp] theorem State.withInput_cycles (s : State) (w : BusWord) : (s.withInput w).cycles = s.cycles := rfl
@[simp] theorem State.withInput_script (s : State) (w : BusWord) :
    (s.withInput w).script = { now := s.now, word := w } :: s.script := rfl

/-! ## tick -/

@[simp] theorem State.tick_cfg (s : State) : s.tick.cfg = s.cfg := rfl
@[simp] theorem State.tick_connected (s : State) : s.tick.connected = s.connected := rfl
@[simp] theorem State.tick_protocol (s : State) : s.tick.protocol = s.protocol := rfl
@[simp] theorem State.tick_pinSel (s : State) : s.tick.pinSel = s.pinSel := rfl
@[simp] theorem State.tick_markLatch (s : State) : s.tick.markLatch = s.markLatch := rfl
@[simp] theorem State.tick_bitsReceived (s : State) : s.tick.bitsReceived = s.bitsReceived := rfl
@[simp] theorem State.tick_commandAccumulator (s : State) : s.tick.commandAccumulator = s.commandAccumulator := rfl
@[simp] theorem State.tick_activeCommand (s : State) : s.tick.activeCommand = s.activeCommand := rfl
@[simp] theorem State.tick_repeatDeadline (s : State) : s.tick.repeatDeadline = s.repeatDeadline := rfl
@[simp] theorem State.tick_lastReportedCommand (s : State) : s.tick.lastReportedCommand = s.lastReportedCommand := rfl
@[simp] theorem State.tick_hasUnconsumedPress (s : State) : s.tick.hasUnconsumedPress = s.hasUnconsumedPress := rfl
@[simp] theorem State.tick_handlers (s : State) : s.tick.handlers = s.handlers := rfl
@[simp] theorem State.tick_watchDue (s : State) : s.tick.watchDue = s.watchDue := rfl
@[simp] theorem State.tick_cycle (s : State) :
    s.tick.cycle = { now := later s.now 1, rst := false, pulse := none, host := none } := rfl
@[simp] theorem State.tick_dres (s : State) : s.tick.dres = none := rfl
@[simp] theorem State.tick_events (s : State) : s.tick.events = [] := rfl
@[simp] theorem State.tick_out (s : State) : s.tick.out = [] := rfl
@[simp] theorem State.tick_hostRsp (s : State) : s.tick.hostRsp = 0 := rfl
@[simp] theorem State.tick_cycles (s : State) : s.tick.cycles = s.cycles := rfl
@[simp] theorem State.tick_script (s : State) : s.tick.script = s.script := rfl

@[simp] theorem State.takePulse_now (s : State) : s.takePulse.now = s.now := rfl
@[simp] theorem State.takeHost_now (s : State) : s.takeHost.now = s.now := rfl
@[simp] theorem State.takeScript_now (s : State) (l : ScriptLine) (rest : List ScriptLine) :
    (s.takeScript l rest).now = l.now := rfl
@[simp] theorem State.resetFields_now (s : State) : s.resetFields.now = s.now := rfl
@[simp] theorem State.tick_now (s : State) : s.tick.now = later s.now 1 := rfl
@[simp] theorem State.withInput_now (s : State) (w : BusWord) : (s.withInput w).now = s.now := rfl

end Sys2Proof.Machine
end

