-- ==== Sys2Proof/Laws/Ops.lean ====
section
/-!
SUPPORT. What each shared operation can do, said once: for every operation that chooses between cases, the
fields it never writes (the frame lemmas, `@[simp]`) and one lemma that says what it does write.
-/

namespace Sys2Proof.Machine

/-! ## The Frame Decoder writes `bits_received`, `command_accumulator` and its result, and nothing else
(40_frame_decoder.md R134) -/

@[simp] theorem State.pushBit_cfg (s : State) (b : Bool) : (s.pushBit b).cfg = s.cfg := by
  unfold State.pushBit; split <;> rfl
@[simp] theorem State.pushBit_connected (s : State) (b : Bool) : (s.pushBit b).connected = s.connected := by
  unfold State.pushBit; split <;> rfl
@[simp] theorem State.pushBit_protocol (s : State) (b : Bool) : (s.pushBit b).protocol = s.protocol := by
  unfold State.pushBit; split <;> rfl
@[simp] theorem State.pushBit_pinSel (s : State) (b : Bool) : (s.pushBit b).pinSel = s.pinSel := by
  unfold State.pushBit; split <;> rfl
@[simp] theorem State.pushBit_markLatch (s : State) (b : Bool) : (s.pushBit b).markLatch = s.markLatch := by
  unfold State.pushBit; split <;> rfl
@[simp] theorem State.pushBit_activeCommand (s : State) (b : Bool) : (s.pushBit b).activeCommand = s.activeCommand := by
  unfold State.pushBit; split <;> rfl
@[simp] theorem State.pushBit_repeatDeadline (s : State) (b : Bool) : (s.pushBit b).repeatDeadline = s.repeatDeadline := by
  unfold State.pushBit; split <;> rfl
@[simp] theorem State.pushBit_lastReportedCommand (s : State) (b : Bool) : (s.pushBit b).lastReportedCommand = s.lastReportedCommand := by
  unfold State.pushBit; split <;> rfl
@[simp] theorem State.pushBit_hasUnconsumedPress (s : State) (b : Bool) : (s.pushBit b).hasUnconsumedPress = s.hasUnconsumedPress := by
  unfold State.pushBit; split <;> rfl
@[simp] theorem State.pushBit_handlers (s : State) (b : Bool) : (s.pushBit b).handlers = s.handlers := by
  unfold State.pushBit; split <;> rfl
@[simp] theorem State.pushBit_watchDue (s : State) (b : Bool) : (s.pushBit b).watchDue = s.watchDue := by
  unfold State.pushBit; split <;> rfl
@[simp] theorem State.pushBit_cycle (s : State) (b : Bool) : (s.pushBit b).cycle = s.cycle := by
  unfold State.pushBit; split <;> rfl
@[simp] theorem State.pushBit_events (s : State) (b : Bool) : (s.pushBit b).events = s.events := by
  unfold State.pushBit; split <;> rfl
@[simp] theorem State.pushBit_out (s : State) (b : Bool) : (s.pushBit b).out = s.out := by
  unfold State.pushBit; split <;> rfl
@[simp] theorem State.pushBit_hostRsp (s : State) (b : Bool) : (s.pushBit b).hostRsp = s.hostRsp := by
  unfold State.pushBit; split <;> rfl
@[simp] theorem State.pushBit_cycles (s : State) (b : Bool) : (s.pushBit b).cycles = s.cycles := by
  unfold State.pushBit; split <;> rfl
@[simp] theorem State.pushBit_script (s : State) (b : Bool) : (s.pushBit b).script = s.script := by
  unfold State.pushBit; split <;> rfl
@[simp] theorem State.pushBit_now (s : State) (b : Bool) : (s.pushBit b).now = s.now := by
  simp [State.now]

@[simp] theorem State.decodePulsePair_cfg (s : State) (d : Duration) : (s.decodePulsePair d).cfg = s.cfg := by
  unfold State.decodePulsePair; split <;> simp
@[simp] theorem State.decodePulsePair_connected (s : State) (d : Duration) : (s.decodePulsePair d).connected = s.connected := by
  unfold State.decodePulsePair; split <;> simp
@[simp] theorem State.decodePulsePair_protocol (s : State) (d : Duration) : (s.decodePulsePair d).protocol = s.protocol := by
  unfold State.decodePulsePair; split <;> simp
@[simp] theorem State.decodePulsePair_pinSel (s : State) (d : Duration) : (s.decodePulsePair d).pinSel = s.pinSel := by
  unfold State.decodePulsePair; split <;> simp
@[simp] theorem State.decodePulsePair_markLatch (s : State) (d : Duration) : (s.decodePulsePair d).markLatch = s.markLatch := by
  unfold State.decodePulsePair; split <;> simp
@[simp] theorem State.decodePulsePair_activeCommand (s : State) (d : Duration) : (s.decodePulsePair d).activeCommand = s.activeCommand := by
  unfold State.decodePulsePair; split <;> simp
@[simp] theorem State.decodePulsePair_repeatDeadline (s : State) (d : Duration) : (s.decodePulsePair d).repeatDeadline = s.repeatDeadline := by
  unfold State.decodePulsePair; split <;> simp
@[simp] theorem State.decodePulsePair_lastReportedCommand (s : State) (d : Duration) : (s.decodePulsePair d).lastReportedCommand = s.lastReportedCommand := by
  unfold State.decodePulsePair; split <;> simp
@[simp] theorem State.decodePulsePair_hasUnconsumedPress (s : State) (d : Duration) : (s.decodePulsePair d).hasUnconsumedPress = s.hasUnconsumedPress := by
  unfold State.decodePulsePair; split <;> simp
@[simp] theorem State.decodePulsePair_handlers (s : State) (d : Duration) : (s.decodePulsePair d).handlers = s.handlers := by
  unfold State.decodePulsePair; split <;> simp
@[simp] theorem State.decodePulsePair_watchDue (s : State) (d : Duration) : (s.decodePulsePair d).watchDue = s.watchDue := by
  unfold State.decodePulsePair; split <;> simp
@[simp] theorem State.decodePulsePair_cycle (s : State) (d : Duration) : (s.decodePulsePair d).cycle = s.cycle := by
  unfold State.decodePulsePair; split <;> simp
@[simp] theorem State.decodePulsePair_events (s : State) (d : Duration) : (s.decodePulsePair d).events = s.events := by
  unfold State.decodePulsePair; split <;> simp
@[simp] theorem State.decodePulsePair_out (s : State) (d : Duration) : (s.decodePulsePair d).out = s.out := by
  unfold State.decodePulsePair; split <;> simp
@[simp] theorem State.decodePulsePair_hostRsp (s : State) (d : Duration) : (s.decodePulsePair d).hostRsp = s.hostRsp := by
  unfold State.decodePulsePair; split <;> simp
@[simp] theorem State.decodePulsePair_cycles (s : State) (d : Duration) : (s.decodePulsePair d).cycles = s.cycles := by
  unfold State.decodePulsePair; split <;> simp
@[simp] theorem State.decodePulsePair_script (s : State) (d : Duration) : (s.decodePulsePair d).script = s.script := by
  unfold State.decodePulsePair; split <;> simp
@[simp] theorem State.decodePulsePair_now (s : State) (d : Duration) : (s.decodePulsePair d).now = s.now := by
  simp [State.now]

/-- What `push_bit` writes in each of its cases (40_frame_decoder.md R141). -/
theorem State.pushBit_cases (s : State) (b : Bool) :
    (s.phase b = .resync ∧ s.pushBit b = s.resyncCount) ∨
    ((s.phase b = .addr ∨ s.phase b = .invAddr ∨ s.phase b = .invCmd) ∧ s.pushBit b = s.countBit) ∨
    (s.phase b = .cmd ∧ s.pushBit b = s.commandBit b) ∨
    (s.phase b = .cmdLast ∧ s.pushBit b = s.lastCommandBit b) := by
  unfold State.pushBit
  split <;> simp_all

/-- What `decode_pulse_pair` does, by the class of the pair (R135). -/
theorem State.decodePulsePair_cases (s : State) (d : Duration) :
    (classify s.cfg d = .zero ∧ s.decodePulsePair d = s.pushBit false) ∨
    (classify s.cfg d = .one ∧ s.decodePulsePair d = s.pushBit true) ∨
    (classify s.cfg d = .repeatCode ∧ s.decodePulsePair d = s.syncPulse .repeatCode) ∨
    ((classify s.cfg d = .start ∨ classify s.cfg d = .long) ∧
      s.decodePulsePair d = s.syncPulse .incomplete) := by
  unfold State.decodePulsePair
  split <;> simp_all

/-- `push_bit` always gives a result (R141). -/
theorem State.pushBit_dres_isSome (s : State) (b : Bool) : (s.pushBit b).dres.isSome = true := by
  unfold State.pushBit
  split <;> rfl

/-- `decode_pulse_pair` always gives a result: it is total (R134). -/
theorem State.decodePulsePair_dres_isSome (s : State) (d : Duration) :
    (s.decodePulsePair d).dres.isSome = true := by
  unfold State.decodePulsePair
  split <;> simp [State.pushBit_dres_isSome]

/-! ## The Command Tracker writes CommandTrackerState and its events, and nothing else
(41_command_tracker.md R170) -/

@[simp] theorem State.emitRelease_cfg (s : State) : s.emitRelease.cfg = s.cfg := by
  unfold State.emitRelease; split <;> rfl
@[simp] theorem State.emitRelease_connected (s : State) : s.emitRelease.connected = s.connected := by
  unfold State.emitRelease; split <;> rfl
@[simp] theorem State.emitRelease_protocol (s : State) : s.emitRelease.protocol = s.protocol := by
  unfold State.emitRelease; split <;> rfl
@[simp] theorem State.emitRelease_pinSel (s : State) : s.emitRelease.pinSel = s.pinSel := by
  unfold State.emitRelease; split <;> rfl
@[simp] theorem State.emitRelease_markLatch (s : State) : s.emitRelease.markLatch = s.markLatch := by
  unfold State.emitRelease; split <;> rfl
@[simp] theorem State.emitRelease_bitsReceived (s : State) : s.emitRelease.bitsReceived = s.bitsReceived := by
  unfold State.emitRelease; split <;> rfl
@[simp] theorem State.emitRelease_commandAccumulator (s : State) : s.emitRelease.commandAccumulator = s.commandAccumulator := by
  unfold State.emitRelease; split <;> rfl
@[simp] theorem State.emitRelease_activeCommand (s : State) : s.emitRelease.activeCommand = s.activeCommand := by
  unfold State.emitRelease; split <;> rfl
@[simp] theorem State.emitRelease_repeatDeadline (s : State) : s.emitRelease.repeatDeadline = s.repeatDeadline := by
  unfold State.emitRelease; split <;> rfl
@[simp] theorem State.emitRelease_lastReportedCommand (s : State) : s.emitRelease.lastReportedCommand = s.lastReportedCommand := by
  unfold State.emitRelease; split <;> rfl
@[simp] theorem State.emitRelease_hasUnconsumedPress (s : State) : s.emitRelease.hasUnconsumedPress = s.hasUnconsumedPress := by
  unfold State.emitRelease; split <;> rfl
@[simp] theorem State.emitRelease_handlers (s : State) : s.emitRelease.handlers = s.handlers := by
  unfold State.emitRelease; split <;> rfl
@[simp] theorem State.emitRelease_watchDue (s : State) : s.emitRelease.watchDue = s.watchDue := by
  unfold State.emitRelease; split <;> rfl
@[simp] theorem State.emitRelease_cycle (s : State) : s.emitRelease.cycle = s.cycle := by
  unfold State.emitRelease; split <;> rfl
@[simp] theorem State.emitRelease_dres (s : State) : s.emitRelease.dres = s.dres := by
  unfold State.emitRelease; split <;> rfl
@[simp] theorem State.emitRelease_out (s : State) : s.emitRelease.out = s.out := by
  unfold State.emitRelease; split <;> rfl
@[simp] theorem State.emitRelease_hostRsp (s : State) : s.emitRelease.hostRsp = s.hostRsp := by
  unfold State.emitRelease; split <;> rfl
@[simp] theorem State.emitRelease_cycles (s : State) : s.emitRelease.cycles = s.cycles := by
  unfold State.emitRelease; split <;> rfl
@[simp] theorem State.emitRelease_script (s : State) : s.emitRelease.script = s.script := by
  unfold State.emitRelease; split <;> rfl
@[simp] theorem State.emitRelease_now (s : State) : s.emitRelease.now = s.now := by
  simp [State.now]

@[simp] theorem State.newCommand_cfg (s : State) (c : Code) : (s.newCommand c).cfg = s.cfg := by
  simp [State.newCommand]
@[simp] theorem State.newCommand_connected (s : State) (c : Code) : (s.newCommand c).connected = s.connected := by
  simp [State.newCommand]
@[simp] theorem State.newCommand_protocol (s : State) (c : Code) : (s.newCommand c).protocol = s.protocol := by
  simp [State.newCommand]
@[simp] theorem State.newCommand_pinSel (s : State) (c : Code) : (s.newCommand c).pinSel = s.pinSel := by
  simp [State.newCommand]
@[simp] theorem State.newCommand_markLatch (s : State) (c : Code) : (s.newCommand c).markLatch = s.markLatch := by
  simp [State.newCommand]
@[simp] theorem State.newCommand_bitsReceived (s : State) (c : Code) : (s.newCommand c).bitsReceived = s.bitsReceived := by
  simp [State.newCommand]
@[simp] theorem State.newCommand_commandAccumulator (s : State) (c : Code) : (s.newCommand c).commandAccumulator = s.commandAccumulator := by
  simp [State.newCommand]
@[simp] theorem State.newCommand_handlers (s : State) (c : Code) : (s.newCommand c).handlers = s.handlers := by
  simp [State.newCommand]
@[simp] theorem State.newCommand_watchDue (s : State) (c : Code) : (s.newCommand c).watchDue = s.watchDue := by
  simp [State.newCommand]
@[simp] theorem State.newCommand_cycle (s : State) (c : Code) : (s.newCommand c).cycle = s.cycle := by
  simp [State.newCommand]
@[simp] theorem State.newCommand_dres (s : State) (c : Code) : (s.newCommand c).dres = s.dres := by
  simp [State.newCommand]
@[simp] theorem State.newCommand_out (s : State) (c : Code) : (s.newCommand c).out = s.out := by
  simp [State.newCommand]
@[simp] theorem State.newCommand_hostRsp (s : State) (c : Code) : (s.newCommand c).hostRsp = s.hostRsp := by
  simp [State.newCommand]
@[simp] theorem State.newCommand_cycles (s : State) (c : Code) : (s.newCommand c).cycles = s.cycles := by
  simp [State.newCommand]
@[simp] theorem State.newCommand_script (s : State) (c : Code) : (s.newCommand c).script = s.script := by
  simp [State.newCommand]
@[simp] theorem State.newCommand_now (s : State) (c : Code) : (s.newCommand c).now = s.now := by
  simp [State.now]

@[simp] theorem State.trackCommand_cfg (s : State) (c : Code) : (s.trackCommand c).cfg = s.cfg := by
  unfold State.trackCommand; split <;> simp
@[simp] theorem State.trackCommand_connected (s : State) (c : Code) : (s.trackCommand c).connected = s.connected := by
  unfold State.trackCommand; split <;> simp
@[simp] theorem State.trackCommand_protocol (s : State) (c : Code) : (s.trackCommand c).protocol = s.protocol := by
  unfold State.trackCommand; split <;> simp
@[simp] theorem State.trackCommand_pinSel (s : State) (c : Code) : (s.trackCommand c).pinSel = s.pinSel := by
  unfold State.trackCommand; split <;> simp
@[simp] theorem State.trackCommand_markLatch (s : State) (c : Code) : (s.trackCommand c).markLatch = s.markLatch := by
  unfold State.trackCommand; split <;> simp
@[simp] theorem State.trackCommand_bitsReceived (s : State) (c : Code) : (s.trackCommand c).bitsReceived = s.bitsReceived := by
  unfold State.trackCommand; split <;> simp
@[simp] theorem State.trackCommand_commandAccumulator (s : State) (c : Code) : (s.trackCommand c).commandAccumulator = s.commandAccumulator := by
  unfold State.trackCommand; split <;> simp
@[simp] theorem State.trackCommand_handlers (s : State) (c : Code) : (s.trackCommand c).handlers = s.handlers := by
  unfold State.trackCommand; split <;> simp
@[simp] theorem State.trackCommand_watchDue (s : State) (c : Code) : (s.trackCommand c).watchDue = s.watchDue := by
  unfold State.trackCommand; split <;> simp
@[simp] theorem State.trackCommand_cycle (s : State) (c : Code) : (s.trackCommand c).cycle = s.cycle := by
  unfold State.trackCommand; split <;> simp
@[simp] theorem State.trackCommand_dres (s : State) (c : Code) : (s.trackCommand c).dres = s.dres := by
  unfold State.trackCommand; split <;> simp
@[simp] theorem State.trackCommand_out (s : State) (c : Code) : (s.trackCommand c).out = s.out := by
  unfold State.trackCommand; split <;> simp
@[simp] theorem State.trackCommand_hostRsp (s : State) (c : Code) : (s.trackCommand c).hostRsp = s.hostRsp := by
  unfold State.trackCommand; split <;> simp
@[simp] theorem State.trackCommand_cycles (s : State) (c : Code) : (s.trackCommand c).cycles = s.cycles := by
  unfold State.trackCommand; split <;> simp
@[simp] theorem State.trackCommand_script (s : State) (c : Code) : (s.trackCommand c).script = s.script := by
  unfold State.trackCommand; split <;> simp
@[simp] theorem State.trackCommand_now (s : State) (c : Code) : (s.trackCommand c).now = s.now := by
  simp [State.now]

@[simp] theorem State.track_cfg (s : State) : s.track.cfg = s.cfg := by
  unfold State.track; split <;> simp
@[simp] theorem State.track_connected (s : State) : s.track.connected = s.connected := by
  unfold State.track; split <;> simp
@[simp] theorem State.track_protocol (s : State) : s.track.protocol = s.protocol := by
  unfold State.track; split <;> simp
@[simp] theorem State.track_pinSel (s : State) : s.track.pinSel = s.pinSel := by
  unfold State.track; split <;> simp
@[simp] theorem State.track_markLatch (s : State) : s.track.markLatch = s.markLatch := by
  unfold State.track; split <;> simp
@[simp] theorem State.track_bitsReceived (s : State) : s.track.bitsReceived = s.bitsReceived := by
  unfold State.track; split <;> simp
@[simp] theorem State.track_commandAccumulator (s : State) : s.track.commandAccumulator = s.commandAccumulator := by
  unfold State.track; split <;> simp
@[simp] theorem State.track_handlers (s : State) : s.track.handlers = s.handlers := by
  unfold State.track; split <;> simp
@[simp] theorem State.track_watchDue (s : State) : s.track.watchDue = s.watchDue := by
  unfold State.track; split <;> simp
@[simp] theorem State.track_cycle (s : State) : s.track.cycle = s.cycle := by
  unfold State.track; split <;> simp
@[simp] theorem State.track_dres (s : State) : s.track.dres = s.dres := by
  unfold State.track; split <;> simp
@[simp] theorem State.track_out (s : State) : s.track.out = s.out := by
  unfold State.track; split <;> simp
@[simp] theorem State.track_hostRsp (s : State) : s.track.hostRsp = s.hostRsp := by
  unfold State.track; split <;> simp
@[simp] theorem State.track_cycles (s : State) : s.track.cycles = s.cycles := by
  unfold State.track; split <;> simp
@[simp] theorem State.track_script (s : State) : s.track.script = s.script := by
  unfold State.track; split <;> simp
@[simp] theorem State.track_now (s : State) : s.track.now = s.now := by
  simp [State.now]

@[simp] theorem State.releaseIfTimedOut_cfg (s : State) : s.releaseIfTimedOut.cfg = s.cfg := by
  unfold State.releaseIfTimedOut; split <;> simp
@[simp] theorem State.releaseIfTimedOut_connected (s : State) : s.releaseIfTimedOut.connected = s.connected := by
  unfold State.releaseIfTimedOut; split <;> simp
@[simp] theorem State.releaseIfTimedOut_protocol (s : State) : s.releaseIfTimedOut.protocol = s.protocol := by
  unfold State.releaseIfTimedOut; split <;> simp
@[simp] theorem State.releaseIfTimedOut_pinSel (s : State) : s.releaseIfTimedOut.pinSel = s.pinSel := by
  unfold State.releaseIfTimedOut; split <;> simp
@[simp] theorem State.releaseIfTimedOut_markLatch (s : State) : s.releaseIfTimedOut.markLatch = s.markLatch := by
  unfold State.releaseIfTimedOut; split <;> simp
@[simp] theorem State.releaseIfTimedOut_bitsReceived (s : State) : s.releaseIfTimedOut.bitsReceived = s.bitsReceived := by
  unfold State.releaseIfTimedOut; split <;> simp
@[simp] theorem State.releaseIfTimedOut_commandAccumulator (s : State) : s.releaseIfTimedOut.commandAccumulator = s.commandAccumulator := by
  unfold State.releaseIfTimedOut; split <;> simp
@[simp] theorem State.releaseIfTimedOut_repeatDeadline (s : State) : s.releaseIfTimedOut.repeatDeadline = s.repeatDeadline := by
  unfold State.releaseIfTimedOut; split <;> simp
@[simp] theorem State.releaseIfTimedOut_lastReportedCommand (s : State) : s.releaseIfTimedOut.lastReportedCommand = s.lastReportedCommand := by
  unfold State.releaseIfTimedOut; split <;> simp
@[simp] theorem State.releaseIfTimedOut_hasUnconsumedPress (s : State) : s.releaseIfTimedOut.hasUnconsumedPress = s.hasUnconsumedPress := by
  unfold State.releaseIfTimedOut; split <;> simp
@[simp] theorem State.releaseIfTimedOut_handlers (s : State) : s.releaseIfTimedOut.handlers = s.handlers := by
  unfold State.releaseIfTimedOut; split <;> simp
@[simp] theorem State.releaseIfTimedOut_watchDue (s : State) : s.releaseIfTimedOut.watchDue = s.watchDue := by
  unfold State.releaseIfTimedOut; split <;> simp
@[simp] theorem State.releaseIfTimedOut_cycle (s : State) : s.releaseIfTimedOut.cycle = s.cycle := by
  unfold State.releaseIfTimedOut; split <;> simp
@[simp] theorem State.releaseIfTimedOut_dres (s : State) : s.releaseIfTimedOut.dres = s.dres := by
  unfold State.releaseIfTimedOut; split <;> simp
@[simp] theorem State.releaseIfTimedOut_out (s : State) : s.releaseIfTimedOut.out = s.out := by
  unfold State.releaseIfTimedOut; split <;> simp
@[simp] theorem State.releaseIfTimedOut_hostRsp (s : State) : s.releaseIfTimedOut.hostRsp = s.hostRsp := by
  unfold State.releaseIfTimedOut; split <;> simp
@[simp] theorem State.releaseIfTimedOut_cycles (s : State) : s.releaseIfTimedOut.cycles = s.cycles := by
  unfold State.releaseIfTimedOut; split <;> simp
@[simp] theorem State.releaseIfTimedOut_script (s : State) : s.releaseIfTimedOut.script = s.script := by
  unfold State.releaseIfTimedOut; split <;> simp
@[simp] theorem State.releaseIfTimedOut_now (s : State) : s.releaseIfTimedOut.now = s.now := by
  simp [State.now]

/-- The `released` of the active command, if there is one. -/
theorem State.emitRelease_events (s : State) :
    s.emitRelease.events = s.events ++ s.activeCommand.toList.map (fun a => ⟨.released, a⟩) := by
  unfold State.emitRelease
  split <;> simp_all

/-- What a new command writes (41_command_tracker.md R173): the deadline, the press flag, both command
fields, and the release of the old button before the press of the new. -/
@[simp] theorem State.newCommand_activeCommand (s : State) (c : Code) :
    (s.newCommand c).activeCommand = some c := rfl
@[simp] theorem State.newCommand_lastReportedCommand (s : State) (c : Code) :
    (s.newCommand c).lastReportedCommand = some c := rfl
@[simp] theorem State.newCommand_hasUnconsumedPress (s : State) (c : Code) :
    (s.newCommand c).hasUnconsumedPress = true := rfl
@[simp] theorem State.newCommand_repeatDeadline (s : State) (c : Code) :
    (s.newCommand c).repeatDeadline = later s.now s.cfg.repeatTimeout := by
  simp [State.newCommand]
theorem State.newCommand_events (s : State) (c : Code) :
    (s.newCommand c).events =
      s.events ++ s.activeCommand.toList.map (fun a => ⟨.released, a⟩) ++ [⟨.pressed, c⟩] := by
  simp [State.newCommand, State.emitRelease_events]

/-- What `track` does, by the result on the decoder's bus (41_command_tracker.md R173 to R176). -/
theorem State.track_cases (s : State) :
    (∃ c, s.dres = some (.command c) ∧ s.activeCommand ≠ some c ∧ s.track = s.newCommand c) ∨
    (∃ c, s.dres = some (.command c) ∧ s.activeCommand = some c ∧ s.track = s.refreshDeadline) ∨
    (s.dres = some .repeatCode ∧ s.track = s.refreshDeadline) ∨
    ((s.dres = some .incomplete ∨ s.dres = none) ∧ s.track = s) := by
  unfold State.track State.trackCommand
  split
  · split <;> simp_all
  all_goals simp_all

/-- What the releasing half of a check does (41_command_tracker.md R178). -/
theorem State.releaseIfTimedOut_cases (s : State) :
    (∃ a, s.activeCommand = some a ∧ s.repeatDeadline.toNat < s.now.toNat ∧
      s.releaseIfTimedOut =
        { s with events := s.events ++ [⟨.released, a⟩], activeCommand := none }) ∨
    ((s.activeCommand = none ∨ s.now.toNat ≤ s.repeatDeadline.toNat) ∧ s.releaseIfTimedOut = s) := by
  unfold State.releaseIfTimedOut State.timedOut
  cases h : s.activeCommand with
  | none => simp
  | some a =>
    by_cases hd : s.repeatDeadline.toNat < s.now.toNat
    · simp [hd, State.emitRelease, h, State.emit]
    · simp [hd]; omega

/-! ## Event Dispatch -/

/-- An event is delivered to an entry exactly if the entry matches it (42_event_dispatch.md R201). -/
theorem mem_matching (order : HandlerOrder) (h : List Entry) (a : Action) (c : Code) (e : Entry) :
    e ∈ matching order h a c ↔ e ∈ h ∧ e.matchesEvent a c = true := by
  cases order <;> simp [matching]

/-- No events, no records. -/
@[simp] theorem dispatchAll_nil (order : HandlerOrder) (h : List Entry) : dispatchAll order h [] = [] := rfl

/-- The records of the first event precede those of the others (42_event_dispatch.md R203). -/
theorem dispatchAll_cons (order : HandlerOrder) (h : List Entry) (e : Event) (es : List Event) :
    dispatchAll order h (e :: es) = dispatchOne order h e.action e.code ++ dispatchAll order h es := by
  simp [dispatchAll]

/-! ## The host's table -/

@[simp] theorem State.register_cfg (s : State) (e : Entry) : (s.register e).cfg = s.cfg := by
  unfold State.register; split <;> rfl
@[simp] theorem State.register_connected (s : State) (e : Entry) : (s.register e).connected = s.connected := by
  unfold State.register; split <;> rfl
@[simp] theorem State.register_protocol (s : State) (e : Entry) : (s.register e).protocol = s.protocol := by
  unfold State.register; split <;> rfl
@[simp] theorem State.register_pinSel (s : State) (e : Entry) : (s.register e).pinSel = s.pinSel := by
  unfold State.register; split <;> rfl
@[simp] theorem State.register_markLatch (s : State) (e : Entry) : (s.register e).markLatch = s.markLatch := by
  unfold State.register; split <;> rfl
@[simp] theorem State.register_bitsReceived (s : State) (e : Entry) : (s.register e).bitsReceived = s.bitsReceived := by
  unfold State.register; split <;> rfl
@[simp] theorem State.register_commandAccumulator (s : State) (e : Entry) : (s.register e).commandAccumulator = s.commandAccumulator := by
  unfold State.register; split <;> rfl
@[simp] theorem State.register_activeCommand (s : State) (e : Entry) : (s.register e).activeCommand = s.activeCommand := by
  unfold State.register; split <;> rfl
@[simp] theorem State.register_repeatDeadline (s : State) (e : Entry) : (s.register e).repeatDeadline = s.repeatDeadline := by
  unfold State.register; split <;> rfl
@[simp] theorem State.register_lastReportedCommand (s : State) (e : Entry) : (s.register e).lastReportedCommand = s.lastReportedCommand := by
  unfold State.register; split <;> rfl
@[simp] theorem State.register_hasUnconsumedPress (s : State) (e : Entry) : (s.register e).hasUnconsumedPress = s.hasUnconsumedPress := by
  unfold State.register; split <;> rfl
@[simp] theorem State.register_watchDue (s : State) (e : Entry) : (s.register e).watchDue = s.watchDue := by
  unfold State.register; split <;> rfl
@[simp] theorem State.register_cycle (s : State) (e : Entry) : (s.register e).cycle = s.cycle := by
  unfold State.register; split <;> rfl
@[simp] theorem State.register_dres (s : State) (e : Entry) : (s.register e).dres = s.dres := by
  unfold State.register; split <;> rfl
@[simp] theorem State.register_events (s : State) (e : Entry) : (s.register e).events = s.events := by
  unfold State.register; split <;> rfl
@[simp] theorem State.register_out (s : State) (e : Entry) : (s.register e).out = s.out := by
  unfold State.register; split <;> rfl
@[simp] theorem State.register_hostRsp (s : State) (e : Entry) : (s.register e).hostRsp = s.hostRsp := by
  unfold State.register; split <;> rfl
@[simp] theorem State.register_cycles (s : State) (e : Entry) : (s.register e).cycles = s.cycles := by
  unfold State.register; split <;> rfl
@[simp] theorem State.register_script (s : State) (e : Entry) : (s.register e).script = s.script := by
  unfold State.register; split <;> rfl
@[simp] theorem State.register_now (s : State) (e : Entry) : (s.register e).now = s.now := by
  simp [State.now]

/-- A registration is appended, or dropped where the table is full (42_event_dispatch.md R206). -/
theorem State.register_handlers (s : State) (e : Entry) :
    (s.register e).handlers = if s.hasRoom then s.handlers ++ [e] else s.handlers := by
  unfold State.register
  split <;> rfl

/-! ## The next clock cycle -/

@[simp] theorem State.nextCycle_cfg (s : State) : s.nextCycle.cfg = s.cfg := by
  unfold State.nextCycle; split; · rfl
  split <;> rfl
@[simp] theorem State.nextCycle_connected (s : State) : s.nextCycle.connected = s.connected := by
  unfold State.nextCycle; split; · rfl
  split <;> rfl
@[simp] theorem State.nextCycle_protocol (s : State) : s.nextCycle.protocol = s.protocol := by
  unfold State.nextCycle; split; · rfl
  split <;> rfl
@[simp] theorem State.nextCycle_pinSel (s : State) : s.nextCycle.pinSel = s.pinSel := by
  unfold State.nextCycle; split; · rfl
  split <;> rfl
@[simp] theorem State.nextCycle_markLatch (s : State) : s.nextCycle.markLatch = s.markLatch := by
  unfold State.nextCycle; split; · rfl
  split <;> rfl
@[simp] theorem State.nextCycle_bitsReceived (s : State) : s.nextCycle.bitsReceived = s.bitsReceived := by
  unfold State.nextCycle; split; · rfl
  split <;> rfl
@[simp] theorem State.nextCycle_commandAccumulator (s : State) : s.nextCycle.commandAccumulator = s.commandAccumulator := by
  unfold State.nextCycle; split; · rfl
  split <;> rfl
@[simp] theorem State.nextCycle_activeCommand (s : State) : s.nextCycle.activeCommand = s.activeCommand := by
  unfold State.nextCycle; split; · rfl
  split <;> rfl
@[simp] theorem State.nextCycle_repeatDeadline (s : State) : s.nextCycle.repeatDeadline = s.repeatDeadline := by
  unfold State.nextCycle; split; · rfl
  split <;> rfl
@[simp] theorem State.nextCycle_lastReportedCommand (s : State) : s.nextCycle.lastReportedCommand = s.lastReportedCommand := by
  unfold State.nextCycle; split; · rfl
  split <;> rfl
@[simp] theorem State.nextCycle_hasUnconsumedPress (s : State) : s.nextCycle.hasUnconsumedPress = s.hasUnconsumedPress := by
  unfold State.nextCycle; split; · rfl
  split <;> rfl
@[simp] theorem State.nextCycle_handlers (s : State) : s.nextCycle.handlers = s.handlers := by
  unfold State.nextCycle; split; · rfl
  split <;> rfl
@[simp] theorem State.nextCycle_watchDue (s : State) : s.nextCycle.watchDue = s.watchDue := by
  unfold State.nextCycle; split; · rfl
  split <;> rfl
@[simp] theorem State.nextCycle_script (s : State) : s.nextCycle.script = s.script := by
  unfold State.nextCycle; split; · rfl
  split <;> rfl

@[simp] theorem State.nextCycle_dres (s : State) : s.nextCycle.dres = none := by
  unfold State.nextCycle; split; · rfl
  split <;> rfl
@[simp] theorem State.nextCycle_events (s : State) : s.nextCycle.events = [] := by
  unfold State.nextCycle; split; · rfl
  split <;> rfl
@[simp] theorem State.nextCycle_out (s : State) : s.nextCycle.out = [] := by
  unfold State.nextCycle; split; · rfl
  split <;> rfl
@[simp] theorem State.nextCycle_hostRsp (s : State) : s.nextCycle.hostRsp = 0 := by
  unfold State.nextCycle; split; · rfl
  split <;> rfl

/-- What the next cycle is (log 3): a millisecond later with nothing presented, or the first of the cycles
to come, once it is no more than a millisecond ahead. -/
theorem State.nextCycle_cases (s : State) :
    s.nextCycle = s.tick ∧ (∀ c rest, s.cycles = c :: rest → s.now.toNat + 1 < c.now.toNat) ∨
    ∃ c rest, s.cycles = c :: rest ∧ c.now.toNat ≤ s.now.toNat + 1 ∧
      s.nextCycle = { s.begin with cycle := c, cycles := rest } := by
  unfold State.nextCycle
  cases h : s.cycles with
  | nil => simp
  | cons c rest =>
    by_cases hc : s.now.toNat + 1 < c.now.toNat
    · simp [hc]
    · simp [hc]; omega

/-! ## Operands -/

/-- The sum of a pair is exact below the saturation bound (40_frame_decoder.md R132). -/
theorem pairDuration_toNat (mark dur : Duration) :
    (pairDuration mark dur).toNat = min (mark.toNat + dur.toNat) 65535 := by
  have h : min (mark.toNat + dur.toNat) 65535 < 2 ^ 16 := by omega
  simp only [pairDuration, BitVec.toNat_ofNat]
  exact Nat.mod_eq_of_lt h

/-- A later time, where the clock does not wrap (10_state.md R41). -/
theorem later_toNat (t : Time) (ms : Nat) (h : t.toNat + ms < 2 ^ 32) :
    (later t ms).toNat = t.toNat + ms := by
  simp only [later, BitVec.toNat_add, BitVec.toNat_ofNat]
  have : ms % 2 ^ 32 = ms := Nat.mod_eq_of_lt (by omega)
  rw [this]
  exact Nat.mod_eq_of_lt h

/-- The new bit enters at bit 0 and every other bit moves up one place (40_frame_decoder.md R145). -/
theorem shiftIn_getLsbD (acc : Code) (b : Bool) (i : Nat) :
    (shiftIn acc b).getLsbD i = (decide (i < 8) && (if i = 0 then b else acc.getLsbD (i - 1))) := by
  unfold shiftIn
  cases i with
  | zero => cases b <;> simp [BitVec.getLsbD, Nat.testBit_zero]
  | succ j =>
    have h : (acc.toNat * 2 + b.toNat) / 2 = acc.toNat := by cases b <;> simp; omega
    rw [BitVec.getLsbD, BitVec.toNat_ofNat, Nat.testBit_mod_two_pow, Nat.testBit_succ, h]
    simp [BitVec.getLsbD]

end Sys2Proof.Machine
end

