-- ==== Sys2Proof/Safety.lean ====
section
/-!
DEFINITION. What counts as a safe run, what the environment promises, and the vocabulary of the claims:
the environment's contract (70_reset_and_hazards.md R285 to R287), the coherence of a state
(10_state.md R42), and what a run puts out (41_command_tracker.md R184 to R186).
-/

namespace Sys2Proof.Machine

/-! ## The environment -/

/-- The script presents no internal bus: only inputs of 43_connect_and_step.md R236. -/
def State.inputsOnly (s : State) : Prop := ∀ l ∈ s.script, l.word.isInput = true

/-- No cycle, present or to come, has the reset line high: a trace is what lies between two resets
(10_state.md R35). -/
def State.noReset (s : State) : Prop := s.cycle.rst = false ∧ ∀ c ∈ s.cycles, c.rst = false

/-- The environment presents nothing more, now or ever. -/
def State.quiet (s : State) : Prop :=
  s.cycle.rst = false ∧ s.cycle.pulse = none ∧ s.cycle.host = none ∧ s.cycles = [] ∧ s.script = []

/-- The times of the cycles to come do not decrease from `t` (70_reset_and_hazards.md R286 b). -/
def timesFrom (t : Nat) : List Cycle → Bool
  | [] => true
  | c :: rest => decide (t ≤ c.now.toNat) && timesFrom c.now.toNat rest

/-- The clock is `ms` milliseconds or more short of wrapping (R286 c; 93_implementation_defined.md U3). -/
def State.clockHasRoom (s : State) (ms : Nat) : Prop := s.now.toNat + ms < 2 ^ 32

/-- A host word the host may present: `op` 0 to 4 (R287 c; 93_implementation_defined.md U5). -/
def hostWordInContract (w : HostWord) : Bool := decide ((w.extractLsb' 28 4).toNat ≤ 4)

/-- What the environment promises of the inputs to come (R286, R287): time that does not decrease and
does not wrap, and no reserved host operation. No meaning assumes it; a claim that needs a part of it
says so. -/
def State.inContract (s : State) : Prop :=
  s.inputsOnly ∧ timesFrom s.now.toNat s.cycles = true ∧ s.clockHasRoom s.cfg.watchIdle ∧
    (∀ c ∈ s.cycles, c.now.toNat + s.cfg.watchIdle < 2 ^ 32) ∧
    ∀ c ∈ s.cycle :: s.cycles, ∀ w, c.host = some w → hostWordInContract w = true

/-! ## States -/

/-- The invariants of 10_state.md R42 that are about one state (lines 2, 3 and 4), with the capacity of
R20's `H` and the premise under which they hold, that no script drives an internal bus. -/
structure State.Coherent (s : State) : Prop where
  inputs : s.inputsOnly
  /-- R42 line 2, with the code of R174. -/
  active : ∀ c, s.activeCommand = some c → s.lastReportedCommand = some c ∧ s.connected = true
  /-- R42 line 3. -/
  unreported : s.lastReportedCommand = none → s.activeCommand = none ∧ s.hasUnconsumedPress = false
  /-- R42 line 4. -/
  decoderBeforeConnect : s.connected = false →
    s.bitsReceived = 0 ∧ s.commandAccumulator = 0 ∧ s.markLatch = 0
  /-- R42 line 4. -/
  trackerBeforeConnect : s.connected = false →
    s.activeCommand = none ∧ s.repeatDeadline = 0 ∧ s.lastReportedCommand = none ∧
      s.hasUnconsumedPress = false
  /-- 10_state.md R27, R28, R38: written by the first CONNECT and not before. -/
  configBeforeConnect : s.connected = false → s.protocol = .za ∧ s.pinSel = 0 ∧ s.watchDue = 0
  /-- 10_state.md R20: the length of `H` is at most `N_HANDLERS`. -/
  capacity : ∀ n, s.cfg.nHandlers = some n → s.handlers.length ≤ n

/-- The watcher's timer is set and not passed: its next check is at most an idle sleep away
(41_command_tracker.md R180), in a run that the arbiter drives with times that do not decrease. -/
structure State.WatchArmed (s : State) : Prop where
  driven : s.script = []
  times : timesFrom s.now.toNat s.cycles = true
  ahead : s.connected = true → s.now.toNat ≤ s.watchDue.toNat
  near : s.connected = true → s.watchDue.toNat ≤ s.now.toNat + s.cfg.watchIdle

/-- The state as hardware holds it, with `bits_received` in a counter of `BITS_W` = 6 bits that saturates
at 63 (10_state.md R23, 92_eei_decisions.md D4). -/
def State.saturated (s : State) : State := { s with bitsReceived := min s.bitsReceived 63 }

/-! ## Runs -/

/-- The state after `k` steps; `none` if one of them refuses. -/
def State.after : Nat → State → Option State
  | 0, s => some s
  | k + 1, s =>
    match step s with
    | .next t => State.after k t
    | .fault _ => none
    | .refused _ => none

/-- The events of the next `k` steps, in order. -/
def State.eventsAlong : Nat → State → List Event
  | 0, _ => []
  | k + 1, s =>
    match step s with
    | .next t => t.events ++ State.eventsAlong k t
    | .fault _ => []
    | .refused _ => []

/-- What the outside sees of the next `k` steps, in order: the records and the response of each
(30_encoding.md R99, R100). -/
def State.outputsAlong : Nat → State → List (List Invocation × RspWord)
  | 0, _ => []
  | k + 1, s =>
    match step s with
    | .next t => (t.out, t.hostRsp) :: State.outputsAlong k t
    | .fault _ => []
    | .refused _ => []

/-- How many of the next `k` steps answer `WAS -> true` (response word 0x001, which no other operation
gives: 30_encoding.md R99). -/
def State.wasTrueAlong : Nat → State → Nat
  | 0, _ => 0
  | k + 1, s =>
    match step s with
    | .next t => (if t.hostRsp = wasResponse true then 1 else 0) + State.wasTrueAlong k t
    | .fault _ => 0
    | .refused _ => 0

/-- The DecodeResults of a sequence of operations run one after the other. -/
def resultsAlong : List Instr → State → List DecodeResult
  | [], _ => []
  | i :: is, s =>
    match exec i s with
    | .next t => t.dres.toList ++ resultsAlong is t
    | .fault _ => []
    | .refused _ => []

/-- The state after a sequence of operations; `none` if one of them does not complete. -/
def afterAll : List Instr → State → Option State
  | [], s => some s
  | i :: is, s =>
    match exec i s with
    | .next t => afterAll is t
    | .fault _ => none
    | .refused _ => none

/-! ## Events -/

/-- The events alternate, the button `held` being down at the start: a `released` is of the button that
is down, a `pressed` comes only when none is (41_command_tracker.md R184). -/
def alternates (held : Option Code) : List Event → Bool
  | [] => true
  | e :: es =>
    match held, e.action with
    | none, .pressed => alternates (some e.code) es
    | none, .released => false
    | some _, .pressed => false
    | some a, .released => a == e.code && alternates none es

/-- The button that is down after the events: that of the last event, if it is a `pressed` (R185). -/
def heldAfter (held : Option Code) : List Event → Option Code
  | [] => held
  | e :: es =>
    match e.action with
    | .pressed => heldAfter (some e.code) es
    | .released => heldAfter none es

/-- The code of the last `pressed` of the events, `last` if there is none (R186). -/
def lastPressed (last : Option Code) : List Event → Option Code
  | [] => last
  | e :: es =>
    match e.action with
    | .pressed => lastPressed (some e.code) es
    | .released => lastPressed last es

/-- How many of the events are a `pressed`. -/
def pressCount (es : List Event) : Nat := (es.filter (fun e => e.action == .pressed)).length

/-! ## Frames on the wire -/

/-- A pulse pair: the durations of a mark and of the space after it. -/
abbrev Pair := Duration × Duration

/-- The two reports of each pair, in order (30_encoding.md R106). -/
def pairReports (ps : List Pair) : List Instr :=
  ps.flatMap (fun p => [.mark p.1, .space p.2])

/-- The class of a pair (30_encoding.md R91). -/
def pairClass (c : Config) (p : Pair) : SymbolClass := classify c (pairDuration p.1 p.2)

/-- The class that carries the data bit `b`. -/
def bitClass (b : Bool) : SymbolClass := if b then .one else .zero

/-- The bits of a byte, most significant first (20_memory.md R62). -/
def byteBits (v : Code) : List Bool :=
  [v.getLsbD 7, v.getLsbD 6, v.getLsbD 5, v.getLsbD 4, v.getLsbD 3, v.getLsbD 2, v.getLsbD 1, v.getLsbD 0]

/-- The 32 data bits of a frame with address `a` and command `c`: each followed by its complement,
`255 - a` and `255 - c` (30_encoding.md R92, R106). -/
def frameBits (a c : Code) : List Bool :=
  byteBits a ++ byteBits (255 - a) ++ byteBits c ++ byteBits (255 - c)

end Sys2Proof.Machine
end

