-- ==== Sys2Proof/Laws/Step.lean ====
section
/-!
SUPPORT. What `exec` and `step` can do, said once: the inversion lemma of each, and the frame every
operation keeps.
-/

namespace Sys2Proof.Machine

/-- The state `exec` goes to. -/
def execResult (i : Instr) (s : State) : State :=
  match exec i s with
  | .next t => t
  | .fault _ => s
  | .refused _ => s

/-- An outcome that is one next state or another is a next state. -/
theorem next_or_next {p : Prop} [Decidable p] (t u : State) :
    ∃ v, (if p then .next t else .next u : Host.Outcome State Fault Refusal) = .next v := by
  split
  exacts [⟨t, rfl⟩, ⟨u, rfl⟩]

/-- `exec` answers with its result: the operations of IRDEC raise nothing (60_exceptions.md R250). -/
theorem exec_eq (i : Instr) (s : State) : exec i s = .next (execResult i s) := by
  have h : ∃ t, exec i s = .next t := by
    cases i <;> first | exact ⟨_, rfl⟩ | exact next_or_next _ _
  obtain ⟨t, ht⟩ := h
  simp [execResult, ht]

/-- What an operation that completes goes to. -/
theorem execResult_of_exec (i : Instr) (s t : State) (h : exec i s = .next t) : execResult i s = t := by
  simp [execResult, h]

/-- A conditional outcome goes to the state of the branch taken. -/
theorem execResult_ite {p : Prop} [Decidable p] {i : Instr} {s t u : State}
    (h : exec i s = if p then .next t else .next u) : execResult i s = if p then t else u := by
  unfold execResult
  rw [h]
  by_cases hp : p <;> simp [hp]

/-! The inputs of 43_connect_and_step.md R236, each with the state it goes to. -/

theorem execResult_mark (dur : Duration) (s : State) :
    execResult (.mark dur) s = if s.connected then { s.begin with markLatch := dur } else s.begin :=
  execResult_ite rfl
theorem execResult_space (dur : Duration) (s : State) :
    execResult (.space dur) s =
      if s.connected then (s.begin.decodePulsePair (pairDuration s.markLatch dur)).track.dispatch
      else s.begin :=
  execResult_ite rfl
theorem execResult_wchk (s : State) :
    execResult .wchk s =
      if s.connected then s.begin.releaseIfTimedOut.reloadWatch.dispatch else s.begin :=
  execResult_ite rfl
theorem execResult_nop (s : State) : execResult .nop s = s.begin.respond 0 := rfl
theorem execResult_connect (v : Protocol) (p : Pin) (s : State) :
    execResult (.connect v p) s =
      if s.connected then s.begin.respond 0 else (s.begin.configure v p).respond 0 :=
  execResult_ite rfl
theorem execResult_onbtn (h : HandlerId) (a : Action) (any : Bool) (c : Code) (s : State) :
    execResult (.onbtn h a any c) s =
      (s.begin.register { any := any, code := c, action := a, handler := h }).respond 0 := rfl
theorem execResult_last (s : State) :
    execResult .last s = s.begin.respond (lastResponse s.lastReportedCommand) := rfl
theorem execResult_was (s : State) :
    execResult .was s = s.begin.clearPressFlag.respond (wasResponse s.hasUnconsumedPress) := rfl
theorem execResult_reserved (op : BitVec 4) (s : State) :
    execResult (.reserved op) s = s.begin.respond 0 := rfl

/-- The operations whose words only an internal bus carries: the named cases of a stage (30_encoding.md
R104). -/
def isStageCase : Instr → Bool
  | .mark _ | .space _ | .wchk | .nop | .connect _ _ | .onbtn _ _ _ _ | .last | .was | .reserved _ => false
  | .symZero _ | .symOne _ | .symRepeat _ | .symStart _ | .symLong _ => true
  | .bitAddr _ | .bitResync | .bitInvaddr _ | .bitCmd _ | .bitCmdlast _ | .bitInvcmd _ => true
  | .trkCmdnew _ | .trkCmdsame _ | .trkRepeat | .trkIncomplete => true
  | .evPressed _ _ | .evReleased _ _ => true

/-- What a case of a stage can do: nothing, one bit or one sync pulse of the Frame Decoder, one write of
the Command Tracker, or the dispatch of one event. -/
theorem execResult_stage (i : Instr) (s : State) (hi : isStageCase i = true) :
    execResult i s = s.begin ∨
    (∃ b, execResult i s = s.begin.pushBit b) ∨
    (∃ r, (r = .repeatCode ∨ r = .incomplete) ∧ execResult i s = s.begin.syncPulse r) ∨
    (∃ c, s.activeCommand ≠ some c ∧ execResult i s = s.begin.newCommand c) ∨
    execResult i s = s.begin.refreshDeadline ∨
    (∃ a c, execResult i s = s.begin.dispatchEvent a c) := by
  have bit : ∀ (j : Instr) (b : Bool) (ph : BitPhase) (t : State),
      (exec j s = if s.phase b = ph then .next t else .next s.begin) →
      (s.phase b = ph → t = s.begin.pushBit b) →
      execResult j s = s.begin ∨ ∃ b, execResult j s = s.begin.pushBit b := by
    intro j b ph t hj ht
    rw [execResult_ite hj]
    by_cases hp : s.phase b = ph
    · exact .inr ⟨b, by rw [if_pos hp, ht hp]⟩
    · exact .inl (if_neg hp)
  cases i with
  | mark | space | wchk | nop | connect | onbtn | last | was | reserved => simp [isStageCase] at hi
  | symZero d =>
    rw [execResult_ite (i := .symZero d) rfl]
    split
    exacts [.inr (.inl ⟨_, rfl⟩), .inl rfl]
  | symOne d =>
    rw [execResult_ite (i := .symOne d) rfl]
    split
    exacts [.inr (.inl ⟨_, rfl⟩), .inl rfl]
  | symRepeat d =>
    rw [execResult_ite (i := .symRepeat d) rfl]
    split
    exacts [.inr (.inr (.inl ⟨_, .inl rfl, rfl⟩)), .inl rfl]
  | symStart d =>
    rw [execResult_ite (i := .symStart d) rfl]
    split
    exacts [.inr (.inr (.inl ⟨_, .inr rfl, rfl⟩)), .inl rfl]
  | symLong d =>
    rw [execResult_ite (i := .symLong d) rfl]
    split
    exacts [.inr (.inr (.inl ⟨_, .inr rfl, rfl⟩)), .inl rfl]
  | bitAddr b =>
    rcases bit (.bitAddr b) b .addr _ rfl (by intro h; simp [State.pushBit, h]) with h | h
    exacts [.inl h, .inr (.inl h)]
  | bitResync =>
    rcases bit .bitResync true .resync _ rfl (by intro h; simp [State.pushBit, h]) with h | h
    exacts [.inl h, .inr (.inl h)]
  | bitInvaddr b =>
    rcases bit (.bitInvaddr b) b .invAddr _ rfl (by intro h; simp [State.pushBit, h]) with h | h
    exacts [.inl h, .inr (.inl h)]
  | bitCmd b =>
    rcases bit (.bitCmd b) b .cmd _ rfl (by intro h; simp [State.pushBit, h]) with h | h
    exacts [.inl h, .inr (.inl h)]
  | bitCmdlast b =>
    rcases bit (.bitCmdlast b) b .cmdLast _ rfl (by intro h; simp [State.pushBit, h]) with h | h
    exacts [.inl h, .inr (.inl h)]
  | bitInvcmd b =>
    rcases bit (.bitInvcmd b) b .invCmd _ rfl (by intro h; simp [State.pushBit, h]) with h | h
    exacts [.inl h, .inr (.inl h)]
  | trkCmdnew c =>
    rw [execResult_ite (i := .trkCmdnew c) rfl]
    by_cases h : s.activeCommand = some c
    · exact .inl (if_pos h)
    · exact .inr (.inr (.inr (.inl ⟨c, h, if_neg h⟩)))
  | trkCmdsame c =>
    rw [execResult_ite (i := .trkCmdsame c) rfl]
    split
    exacts [.inr (.inr (.inr (.inr (.inl rfl)))), .inl rfl]
  | trkRepeat => exact .inr (.inr (.inr (.inr (.inl rfl))))
  | trkIncomplete => exact .inl rfl
  | evPressed h c => exact .inr (.inr (.inr (.inr (.inr ⟨_, _, rfl⟩))))
  | evReleased h c => exact .inr (.inr (.inr (.inr (.inr ⟨_, _, rfl⟩))))

/-- What an input can do (43_connect_and_step.md R236). -/
theorem execResult_input (i : Instr) (s : State) (hi : isStageCase i = false) :
    execResult i s = s.begin ∨
    (∃ dur, s.connected = true ∧ execResult i s = { s.begin with markLatch := dur }) ∨
    (∃ d, s.connected = true ∧ execResult i s = (s.begin.decodePulsePair d).track.dispatch) ∨
    (s.connected = true ∧ execResult i s = s.begin.releaseIfTimedOut.reloadWatch.dispatch) ∨
    (∃ v p, s.connected = false ∧ execResult i s = (s.begin.configure v p).respond 0) ∨
    (∃ e, execResult i s = (s.begin.register e).respond 0) ∨
    (∃ w, (w = 0 ∨ w = lastResponse s.lastReportedCommand) ∧ execResult i s = s.begin.respond w) ∨
    execResult i s = s.begin.clearPressFlag.respond (wasResponse s.hasUnconsumedPress) := by
  cases i with
  | mark dur =>
    rw [execResult_mark]
    split <;> simp_all
  | space dur =>
    rw [execResult_space]
    split
    · exact .inr (.inr (.inl ⟨_, by assumption, rfl⟩))
    · exact .inl rfl
  | wchk =>
    rw [execResult_wchk]
    split <;> simp_all
  | connect v p =>
    rw [execResult_connect]
    split
    · exact .inr (.inr (.inr (.inr (.inr (.inr (.inl ⟨0, .inl rfl, rfl⟩))))))
    · exact .inr (.inr (.inr (.inr (.inl ⟨v, p, by simp_all, rfl⟩))))
  | onbtn h a any c => exact .inr (.inr (.inr (.inr (.inr (.inl ⟨_, rfl⟩)))))
  | nop => exact .inr (.inr (.inr (.inr (.inr (.inr (.inl ⟨0, .inl rfl, rfl⟩))))))
  | last => exact .inr (.inr (.inr (.inr (.inr (.inr (.inl ⟨_, .inr rfl, rfl⟩))))))
  | reserved op => exact .inr (.inr (.inr (.inr (.inr (.inr (.inl ⟨0, .inl rfl, rfl⟩))))))
  | was => exact .inr (.inr (.inr (.inr (.inr (.inr (.inr rfl))))))
  | _ => simp [isStageCase] at hi

/-- No operation writes the parameters, the ports of the cycle, or what is still to come. -/
theorem execResult_environment (i : Instr) (s : State) :
    (execResult i s).cfg = s.cfg ∧ (execResult i s).cycle = s.cycle ∧
      (execResult i s).cycles = s.cycles ∧ (execResult i s).script = s.script := by
  cases hi : isStageCase i with
  | true =>
    rcases execResult_stage i s hi with h | ⟨_, h⟩ | ⟨_, _, h⟩ | ⟨_, _, h⟩ | h | ⟨_, _, h⟩ <;>
      rw [h] <;> simp
  | false =>
    rcases execResult_input i s hi with
      h | ⟨_, _, h⟩ | ⟨_, _, h⟩ | ⟨_, h⟩ | ⟨_, _, _, h⟩ | ⟨_, h⟩ | ⟨_, _, h⟩ | h <;>
      rw [h] <;> simp

/-- What a step can do (43_connect_and_step.md R235): reset, run the operation of the input it takes, or
go to the next clock cycle. -/
theorem step_cases (s t : State) (h : step s = .next t) :
    (s.cycle.rst = true ∧ t = s.resetFields) ∨
    (s.cycle.rst = false ∧ ∃ w u i, s.fetch = .word w u ∧ decode u.select w = some i ∧
      t = execResult i u) ∨
    (s.cycle.rst = false ∧ s.script = [] ∧ s.cycle.pulse = none ∧ s.watchFallsDue = false ∧
      s.cycle.host = none ∧ t = s.nextCycle) := by
  unfold step at h
  cases hf : s.fetch with
  | reset u =>
    unfold State.fetch at hf
    split at hf
    · left
      rw [Fetched.reset.injEq] at hf
      subst hf
      simp_all [State.fetch]
    · split at hf
      · simp at hf
      · unfold State.arbitrate at hf
        split at hf
        · simp at hf
        · split at hf
          · simp at hf
          · split at hf <;> simp at hf
  | word w u =>
    have hr : s.cycle.rst = false := by
      unfold State.fetch at hf
      split at hf
      · simp at hf
      · simp_all
    rw [hf] at h
    simp only at h
    split at h
    · rename_i i hi
      rw [exec_eq] at h
      right; left
      exact ⟨hr, w, u, i, rfl, hi, by simpa using h.symm⟩
    · simp at h
  | idle u =>
    rw [hf] at h
    unfold State.fetch at hf
    split at hf
    · simp at hf
    · split at hf
      · simp at hf
      · unfold State.arbitrate at hf
        split at hf
        · simp at hf
        · split at hf
          · simp at hf
          · split at hf
            · simp at hf
            · simp_all

/-- What the input taken is, and what taking it does to the state (43_connect_and_step.md R237). -/
theorem fetch_word_cases (s u : State) (w : BusWord) (h : s.fetch = .word w u) :
    (∃ l rest, s.script = l :: rest ∧ w = l.word ∧ u = s.takeScript l rest) ∨
    (s.script = [] ∧ ∃ p, s.cycle.pulse = some p ∧ w = .pulse p ∧ u = s.takePulse) ∨
    (s.script = [] ∧ s.cycle.pulse = none ∧ s.watchFallsDue = true ∧ w = .timer ∧ u = s) ∨
    (s.script = [] ∧ s.cycle.pulse = none ∧ s.watchFallsDue = false ∧
      ∃ c, s.cycle.host = some c ∧ w = .host c ∧ u = s.takeHost) := by
  unfold State.fetch at h
  split at h
  · simp at h
  · split at h
    · rename_i l rest hs
      simp at h
      exact .inl ⟨l, rest, hs, h.1.symm, h.2.symm⟩
    · rename_i hs
      unfold State.arbitrate at h
      split at h
      · rename_i p hp
        simp at h
        exact .inr (.inl ⟨hs, p, hp, h.1.symm, h.2.symm⟩)
      · split at h
        · simp at h
          simp_all
        · split at h
          · simp at h
            simp_all
          · simp at h

/-- A word the outside or the timer presents encodes an input, never a case of a stage (30_encoding.md
R103, R104). -/
theorem decode_input (k : Select) (w : BusWord) (h : w.isInput = true) :
    ∃ i, decode k w = some i ∧ isStageCase i = false := by
  cases w with
  | pulse w => exact ⟨_, rfl, by unfold decodePulse; split <;> rfl⟩
  | timer => exact ⟨_, rfl, rfl⟩
  | host w => exact ⟨_, rfl, by unfold decodeHost; split <;> rfl⟩
  | _ => simp [BusWord.isInput] at h

end Sys2Proof.Machine
end

