-- ==== Sys2Proof/Certificates/Slice0/Obligations.lean ====
section
/-!
DEFINITION. The statements for the provers. An equation `exec i s = .next { s.begin with ... }` says the
whole effect of an operation, its frame included: `s.begin` is `s` with the results of the step before
gone from the buses and the output ports (log 14), and every field not named is that of `s`. IRDEC has no
memory (20_memory.md R60), so no frame speaks of one.
-/

open Sys2Proof Sys2Proof.Machine

/-! ## Parameters and reset -/

/-- 00_scope.md R6: the values of the parameters YF fixes, which the state after reset carries. -/
def Obligations.ParametersHaveTheirValues : Prop :=
  State.reset.cfg.tOne = 1600 ∧ State.reset.cfg.tSync = 2700 ∧ State.reset.cfg.tStartLo = 12500 ∧
  State.reset.cfg.tStartHi = 14500 ∧ State.reset.cfg.nAddrEnd = 8 ∧ State.reset.cfg.nInvEnd = 16 ∧
  State.reset.cfg.nCmdEnd = 24 ∧ State.reset.cfg.resyncTo = 9 ∧ State.reset.cfg.repeatTimeout = 120 ∧
  State.reset.cfg.watchActive = 120 ∧ State.reset.cfg.watchIdle = 240 ∧
  State.reset.cfg.thresholdsOrdered = true

/-- 10_state.md R43: every field of `S` after reset. -/
def Obligations.ResetStateHoldsItsValues : Prop :=
  State.reset.connected = false ∧ State.reset.protocol = .za ∧ State.reset.pinSel = 0 ∧
  State.reset.markLatch = 0 ∧ State.reset.bitsReceived = 0 ∧ State.reset.commandAccumulator = 0 ∧
  State.reset.activeCommand = none ∧ State.reset.repeatDeadline = 0 ∧
  State.reset.lastReportedCommand = none ∧ State.reset.hasUnconsumedPress = false ∧
  State.reset.handlers = [] ∧ State.reset.watchDue = 0

/-- 70_reset_and_hazards.md R280: with `rst` high every field of `S` takes its reset value, the outputs
are idle, the inputs presented in the cycle are ignored and the records of the step before are discarded. -/
def Obligations.ResetLineResetsEveryField : Prop :=
  ∀ s : State, s.cycle.rst = true →
    ∃ t, step s = .next t ∧
      t.connected = false ∧ t.protocol = .za ∧ t.pinSel = 0 ∧ t.markLatch = 0 ∧ t.bitsReceived = 0 ∧
      t.commandAccumulator = 0 ∧ t.activeCommand = none ∧ t.repeatDeadline = 0 ∧
      t.lastReportedCommand = none ∧ t.hasUnconsumedPress = false ∧ t.handlers = [] ∧ t.watchDue = 0 ∧
      t.out = [] ∧ t.hostRsp = 0 ∧ t.cycle.pulse = none ∧ t.cycle.host = none

/-! ## Encodings -/

/-- Every operation that its operands and the state admit is what its word decodes to. -/
def Obligations.DecodeOfEncodeIsTheOperation : Prop :=
  ∀ (k : Select) (i : Instr), i.wellFormed k.cfg = true → i.selected k = true →
    decode k (encode i) = some i

/-- What a word decodes to is well formed and selected by the state, whatever the word and the
parameters. -/
def Obligations.DecodedOperationIsSelected : Prop :=
  ∀ (k : Select) (w : BusWord) (i : Instr), decode k w = some i →
    i.wellFormed k.cfg = true ∧ i.selected k = true

/-- A few words written out from the encodings of 30_encoding.md (vectors of 95_test_vectors.md V-A1,
V-H3, V-H12, V-H13, V-H15, V-H17, V-X10) decode to the operations they stand for. -/
def Obligations.WrittenOutWordsDecode : Prop :=
  decode Select.reset (.pulse 0x00230) = some (.mark 560) ∧
  decode Select.reset (.pulse 0x1069A) = some (.space 1690) ∧
  decode Select.reset (.sym 2699) = some (.symOne 2699) ∧
  decode Select.reset (.bit true) = some .bitResync ∧
  decode Select.reset (.dres 0x0A2) = some (.trkCmdnew 0xA2) ∧
  decode Select.reset (.inv 0x3FFFEFF) = some (.evReleased 65535 0xFF) ∧
  decode Select.reset (.host 0x10000001) = some (.connect .za 1) ∧
  decode Select.reset (.host 0x23FFFEFF) = some (.onbtn 65535 .released false 0xFF) ∧
  decode Select.reset (.host 0x2C000500) = some (.onbtn 1 .pressed true 0) ∧
  decode Select.reset (.host 0x30000000) = some .last ∧
  decode Select.reset (.host 0x4000FFFF) = some .was

/-- 30_encoding.md R98: each host operation reads its listed operand fields and nothing else, whatever
stands in the reserved bits. -/
def Obligations.HostWordFieldsAndReservedBits : Prop :=
  (∀ r : BitVec 28, decodeHost (0x0#4 ++ r) = .nop) ∧
  (∀ (r : BitVec 19) (v : Protocol) (p : Pin),
    decodeHost (0x1#4 ++ r ++ BitVec.ofBool v.bit ++ p) = .connect v p) ∧
  (∀ (r : BitVec 2) (h : HandlerId) (a : Action) (any : Bool) (c : Code),
    decodeHost (0x2#4 ++ r ++ h ++ BitVec.ofBool a.bit ++ BitVec.ofBool any ++ c) = .onbtn h a any c) ∧
  (∀ r : BitVec 28, decodeHost (0x3#4 ++ r) = .last) ∧
  (∀ r : BitVec 28, decodeHost (0x4#4 ++ r) = .was) ∧
  (∀ (op : BitVec 4) (r : BitVec 28), 5 ≤ op.toNat → decodeHost (op ++ r) = .reserved op)

/-- 30_encoding.md R100: the fields of an invocation record's word, and the event it is a record of. -/
def Obligations.InvocationRecordWordFields : Prop :=
  ∀ r : Invocation,
    r.word.extractLsb' 10 16 = r.handler ∧ r.word.getLsbD 9 = r.action.bit ∧
    r.word.getLsbD 8 = false ∧ r.word.extractLsb' 0 8 = r.code ∧
    decodeInv r.word =
      some (match r.action with
        | .pressed => .evPressed r.handler r.code
        | .released => .evReleased r.handler r.code)

/-- 30_encoding.md R91, 40_frame_decoder.md R135: the five bands are half-open, cover every duration and
exclude one another, a threshold belonging to the band above it. -/
def Obligations.SymbolBandsAreHalfOpen : Prop :=
  ∀ (c : Config) (d : Duration), c.thresholdsOrdered = true →
    (classify c d = .zero ↔ d.toNat < c.tOne) ∧
    (classify c d = .one ↔ c.tOne ≤ d.toNat ∧ d.toNat < c.tSync) ∧
    (classify c d = .repeatCode ↔ c.tSync ≤ d.toNat ∧ d.toNat < c.tStartLo) ∧
    (classify c d = .start ↔ c.tStartLo ≤ d.toNat ∧ d.toNat < c.tStartHi) ∧
    (classify c d = .long ↔ c.tStartHi ≤ d.toNat)

/-! ## The step -/

/-- A step runs the decoded operation: `step` takes the next line of the script, or else the arbiter's
choice (the pulse report, then the watcher's expiry, then the host command of the cycle), and is `exec` of
what the word decodes to, in the state with that input taken. With nothing presented no field of `S`
changes (43_connect_and_step.md R236: time passing changes no state by itself): the next cycle to come is
loaded, or a millisecond passes. That the inputs to come stand in the state is the model's (log 1, log 2),
and so is its clock (log 3). -/
def Obligations.StepRunsTheDecodedOperation : Prop :=
  ∀ (s : State), s.cycle.rst = false →
    (∀ l rest i, s.script = l :: rest → decode s.select l.word = some i →
      step s = exec i (s.takeScript l rest)) ∧
    (∀ p, s.script = [] → s.cycle.pulse = some p → step s = exec (decodePulse p) s.takePulse) ∧
    (s.script = [] → s.cycle.pulse = none → s.connected = true → s.now = s.watchDue →
      step s = exec .wchk s) ∧
    (∀ h, s.script = [] → s.cycle.pulse = none → ¬(s.connected = true ∧ s.now = s.watchDue) →
      s.cycle.host = some h → step s = exec (decodeHost h) s.takeHost) ∧
    (s.script = [] → s.cycle.pulse = none → ¬(s.connected = true ∧ s.now = s.watchDue) →
      s.cycle.host = none →
      ∃ c cs, step s = .next { s.begin with cycle := c, cycles := cs } ∧
        (s.cycles = c :: cs ∨
          cs = s.cycles ∧ c = { now := s.now + 1, rst := false, pulse := none, host := none }))

/-- An I-DRES word of tag 0b11, "never produced" (30_encoding.md R101), and a P-INV word whose reserved bit
8 is not the 0 that R100 gives it, stand for no operation: a step that is given one refuses, by the name of
that. That a step can be given one is the model's own (log 5). -/
def Obligations.StageWordOfNoOperationIsRefused : Prop :=
  ∀ (s : State) (l : ScriptLine) (rest : List ScriptLine), s.cycle.rst = false → s.script = l :: rest →
    (∀ c : Code, l.word = .dres (dresWord 3#2 c) → step s = .refused .noOperation) ∧
    (∀ w : InvWord, w.getLsbD 8 = true → l.word = .inv w → step s = .refused .noOperation)

/-- 43_connect_and_step.md R235: driven by its inputs alone, the machine never stops: every step answers a
next state, and is again driven by its inputs alone. That no step refuses a reserved `op` (log 8), a
registration into a full table (log 9) or a clock that wraps (log 10) is the model's choice: it takes the
hardware's effect, where 93_implementation_defined.md U5, U4 and U3 would have a model refuse. -/
def Obligations.EveryInputDrivenStepCompletes : Prop :=
  ∀ s : State, s.inputsOnly → ∃ t, step s = .next t ∧ t.inputsOnly

/-- 43_connect_and_step.md R237: a pulse report, a watcher expiry and a host command of one cycle take
effect as three steps in that order, at one `now`. -/
def Obligations.InputsOfOneCycleTakeEffectInOrder : Prop :=
  ∀ (s : State) (p : PulseWord) (h : HostWord), s.cfg = Config.irdec → s.cycle.rst = false →
    s.script = [] → s.cycle.pulse = some p → s.cycle.host = some h → s.connected = true →
    s.now = s.watchDue →
    ∃ s1 s2 s3,
      step s = .next s1 ∧ exec (decodePulse p) s.takePulse = .next s1 ∧
      step s1 = .next s2 ∧ exec .wchk s1 = .next s2 ∧
      step s2 = .next s3 ∧ exec (decodeHost h) s2.takeHost = .next s3 ∧
      s1.now = s.now ∧ s2.now = s.now ∧ s3.now = s.now

/-- A case of a stage that the state does not select does nothing. The spec says when a case applies
(30_encoding.md R104) and not what it would do elsewhere: this is the model's choice (log 6). -/
def Obligations.UnselectedCaseDoesNothing : Prop :=
  ∀ (i : Instr) (s : State), i.selected s.select = false → exec i s = .next s.begin

/-! ## ACC -/

/-- 40_frame_decoder.md R130: MARK latches the duration, and does nothing else; before the first CONNECT it
is dropped. -/
def Obligations.MarkLatchesTheDuration : Prop :=
  ∀ (dur : Duration) (s : State),
    (s.connected = true → exec (.mark dur) s = .next { s.begin with markLatch := dur }) ∧
    (s.connected = false → exec (.mark dur) s = .next s.begin)

/-- 43_connect_and_step.md R233: before the first CONNECT a pulse report is dropped whole and no check is
made, while ONBTN and CONNECT work. -/
def Obligations.BeforeConnectPulsesAreDropped : Prop :=
  ∀ s : State, s.connected = false →
    (∀ dur, exec (.mark dur) s = .next s.begin) ∧ (∀ dur, exec (.space dur) s = .next s.begin) ∧
    exec .wchk s = .next s.begin ∧
    (s.cfg.nHandlers = none → ∀ h a any c, exec (.onbtn h a any c) s =
      .next { s.begin with handlers := s.handlers ++ [⟨any, c, a, h⟩] }) ∧
    (∀ v p, ∃ t, exec (.connect v p) s = .next t ∧ t.connected = true ∧ t.protocol = v ∧ t.pinSel = p)

/-- 40_frame_decoder.md R131: a SPACE step adds its duration to the latch, saturating; it is the symbol
case that sum selects, then the tracker case that case's result selects, then the dispatch of the tracker's
events; the latch is not cleared. Each event is put out once for every entry of its action that is the
wildcard or has its code, in the handler order, all records of the first event before all of the second
(42_event_dispatch.md R203); a displacing command has two, the release first. Before the first CONNECT it is
dropped. -/
def Obligations.SpaceIsItsStagesInOrder : Prop :=
  ∀ (dur : Duration) (s : State),
    (s.connected = true →
      ∃ d i u r j v o, d.toNat = min (s.markLatch.toNat + dur.toNat) 65535 ∧
        decode s.select (.sym d) = some i ∧ exec i s = .next u ∧
        u.dres = some r ∧ decode u.select (.dres r.word) = some j ∧ exec j u = .next v ∧
        v.markLatch = s.markLatch ∧
        exec (.space dur) s = .next { v with dres := some r, out := o } ∧
        (s.cfg.handlerOrder = .registration →
          o = v.events.flatMap (fun e =>
            (s.handlers.filter (fun h => h.action == e.action && (h.any || h.code == e.code))).map
              (fun h => ⟨h.handler, e.action, e.code⟩))) ∧
        (s.cfg.handlerOrder = .reverse →
          o = v.events.flatMap (fun e =>
            ((s.handlers.filter (fun h => h.action == e.action && (h.any || h.code == e.code))).map
              (fun h => ⟨h.handler, e.action, e.code⟩)).reverse)) ∧
        (∀ a c, s.activeCommand = some a → r = .command c → a ≠ c →
          v.events = [⟨.released, a⟩, ⟨.pressed, c⟩])) ∧
    (s.connected = false → exec (.space dur) s = .next s.begin)

/-- 40_frame_decoder.md R132: only the sum of a pair matters, but for `mark_latch` itself; and saturating
the sum does not change its class. -/
def Obligations.OnlyTheSumOfAPairMatters : Prop :=
  (∀ (m d m' d' : Duration) (s : State), s.connected = true → m.toNat + d.toNat = m'.toNat + d'.toNat →
    ∃ t, afterAll [.mark m, .space d] s = some t ∧
      afterAll [.mark m', .space d'] s = some { t with markLatch := m' }) ∧
  (∀ (c : Config) (m d : Duration), c.thresholdsOrdered = true → c.tStartHi ≤ 65535 →
    (classify c (pairDuration m d) = .long ↔ c.tStartHi ≤ m.toNat + d.toNat))

/-! ## DISC and SYNC -/

/-- 40_frame_decoder.md R136, R137: a pair in the first band pushes a 0, in the second a 1. -/
def Obligations.DataSymbolsPushTheirBit : Prop :=
  ∀ (d : Duration) (s : State), s.cfg.thresholdsOrdered = true →
    (d.toNat < s.cfg.tOne → exec (.symZero d) s = .next (s.begin.pushBit false)) ∧
    (s.cfg.tOne ≤ d.toNat → d.toNat < s.cfg.tSync →
      exec (.symOne d) s = .next (s.begin.pushBit true))

/-- 40_frame_decoder.md R138 to R140: a synchronisation pulse sets `bits_received` to 0 and leaves
`command_accumulator`; the result is `Repeat` in the first of the three bands and `Incomplete` above. -/
def Obligations.SyncSymbolsClearTheCount : Prop :=
  ∀ (d : Duration) (s : State), s.cfg.thresholdsOrdered = true →
    (s.cfg.tSync ≤ d.toNat → d.toNat < s.cfg.tStartLo →
      exec (.symRepeat d) s = .next { s.begin with bitsReceived := 0, dres := some .repeatCode }) ∧
    (s.cfg.tStartLo ≤ d.toNat → d.toNat < s.cfg.tStartHi →
      exec (.symStart d) s = .next { s.begin with bitsReceived := 0, dres := some .incomplete }) ∧
    (s.cfg.tStartHi ≤ d.toNat →
      exec (.symLong d) s = .next { s.begin with bitsReceived := 0, dres := some .incomplete })

/-- 40_frame_decoder.md R141: a data symbol is the bit case that the protocol, the incremented count and
the bit select. -/
def Obligations.DataSymbolIsItsBitCase : Prop :=
  ∀ (d : Duration) (s : State),
    (classify s.cfg d = .zero →
      ∃ i, decode s.select (.bit false) = some i ∧ exec (.symZero d) s = exec i s) ∧
    (classify s.cfg d = .one →
      ∃ i, decode s.select (.bit true) = some i ∧ exec (.symOne d) s = exec i s)

/-- 40_frame_decoder.md R142, R144, R148: address bits (but those that fire the heuristic), inverse-address
bits and bits after the command are counted and ignored. -/
def Obligations.IgnoredBitsAreOnlyCounted : Prop :=
  ∀ (b : Bool) (s : State), s.cfg = Config.irdec →
    (s.bitsReceived + 1 ≤ 8 → ¬(s.protocol = .za ∧ b = true) →
      exec (.bitAddr b) s =
        .next { s.begin with bitsReceived := s.bitsReceived + 1, dres := some .incomplete }) ∧
    (9 ≤ s.bitsReceived + 1 → s.bitsReceived + 1 ≤ 16 →
      exec (.bitInvaddr b) s =
        .next { s.begin with bitsReceived := s.bitsReceived + 1, dres := some .incomplete }) ∧
    (25 ≤ s.bitsReceived + 1 →
      exec (.bitInvcmd b) s =
        .next { s.begin with bitsReceived := s.bitsReceived + 1, dres := some .incomplete })

/-- 40_frame_decoder.md R143: in ZA a 1 in the address region forces the count to 9; `RESYNC_RULE` = `ANY`. -/
def Obligations.ResyncForcesTheCountToNine : Prop :=
  ∀ s : State, s.cfg = Config.irdec → s.protocol = .za → s.bitsReceived + 1 ≤ 8 →
    exec .bitResync s = .next { s.begin with bitsReceived := 9, dres := some .incomplete }

/-- 40_frame_decoder.md R155: under `FIRST_ONLY` the heuristic fires on the first data pair and on no
other. -/
def Obligations.FirstOnlyResyncsOnTheFirstPair : Prop :=
  ∀ s : State, s.cfg = { Config.irdec with resyncRule := .firstOnly } → s.protocol = .za →
    s.bitsReceived + 1 ≤ 8 →
    (s.bitsReceived + 1 = 1 →
      exec .bitResync s = .next { s.begin with bitsReceived := 9, dres := some .incomplete }) ∧
    (s.bitsReceived + 1 ≠ 1 →
      exec (.bitAddr true) s =
        .next { s.begin with bitsReceived := s.bitsReceived + 1, dres := some .incomplete })

/-- 40_frame_decoder.md R145: counts 17 to 23 shift the bit into `command_accumulator`, and give no
result yet. -/
def Obligations.CommandBitIsShiftedIn : Prop :=
  ∀ (b : Bool) (s : State), s.cfg = Config.irdec → 17 ≤ s.bitsReceived + 1 → s.bitsReceived + 1 ≤ 23 →
    ∃ acc : Code, acc.toNat = (s.commandAccumulator.toNat * 2 + b.toNat) % 256 ∧
      exec (.bitCmd b) s =
        .next { s.begin with
          bitsReceived := s.bitsReceived + 1
          commandAccumulator := acc
          dres := some .incomplete }

/-- 40_frame_decoder.md R146: count 24 shifts the bit in and returns the accumulated value. -/
def Obligations.LastCommandBitReturnsTheCommand : Prop :=
  ∀ (b : Bool) (s : State), s.cfg = Config.irdec → s.bitsReceived + 1 = 24 →
    ∃ acc : Code, acc.toNat = (s.commandAccumulator.toNat * 2 + b.toNat) % 256 ∧
      exec (.bitCmdlast b) s =
        .next { s.begin with
          bitsReceived := 24
          commandAccumulator := acc
          dres := some (.command acc) }

/-- 10_state.md R42 line 1: after a data pair `bits_received` is the previous value plus one, except that
it is 9 where the heuristic fired; after a pair with `d ≥ T_SYNC` it is 0. -/
def Obligations.CountAfterAPair : Prop :=
  ∀ (dur : Duration) (s : State), s.cfg = Config.irdec → s.connected = true →
    ∃ t, exec (.space dur) s = .next t ∧
      (2700 ≤ (pairDuration s.markLatch dur).toNat → t.bitsReceived = 0) ∧
      ((pairDuration s.markLatch dur).toNat < 2700 →
        t.bitsReceived =
          if s.protocol = .za ∧ 1600 ≤ (pairDuration s.markLatch dur).toNat ∧ s.bitsReceived + 1 ≤ 8
          then 9 else s.bitsReceived + 1)

/-- 40_frame_decoder.md R149: a `Command` is the result of a data pair only, and only of one whose
incremented count is 24; and every such pair gives one. -/
def Obligations.CommandComesOnlyAtCountTwentyFour : Prop :=
  ∀ (dur : Duration) (s t : State), s.cfg = Config.irdec → s.connected = true →
    exec (.space dur) s = .next t →
    ((∃ c, t.dres = some (.command c)) ↔
      s.bitsReceived + 1 = 24 ∧ (pairDuration s.markLatch dur).toNat < 2700)

/-- 40_frame_decoder.md R147, R150: the eight data pairs from count 17 on give the code they carry, most
significant bit first, whatever the accumulator held. -/
def Obligations.EightCommandPairsGiveTheirCode : Prop :=
  ∀ (s : State) (c : Code) (ps : List Pair), s.cfg = Config.irdec → s.connected = true →
    s.bitsReceived = 16 → ps.map (pairClass s.cfg) = (byteBits c).map bitClass →
    resultsAlong (pairReports ps) s = List.replicate 7 .incomplete ++ [.command c]

/-- 40_frame_decoder.md R154: from any state, a well-formed frame, in GA or with address 0 in ZA, gives
its command on the 24th data pair and nothing else, and leaves the count at 32. -/
def Obligations.WellFormedFrameGivesItsCommand : Prop :=
  ∀ (s : State) (a c : Code) (start : Pair) (ps : List Pair), s.cfg = Config.irdec →
    s.connected = true → (s.protocol = .ga ∨ a = 0) → pairClass s.cfg start = .start →
    ps.map (pairClass s.cfg) = (frameBits a c).map bitClass →
    resultsAlong (pairReports (start :: ps)) s =
      List.replicate 24 .incomplete ++ [.command c] ++ List.replicate 8 .incomplete ∧
    ∃ t, afterAll (pairReports (start :: ps)) s = some t ∧ t.bitsReceived = 32

/-- 40_frame_decoder.md R151, variant ZA with address 0: a frame whose first 1 to 8 data pairs were missed
still gives its true command, on frame pair 24. -/
def Obligations.ZeroAddressVariantRecoversMidFrame : Prop :=
  ∀ (s : State) (c : Code) (k : Nat) (ps : List Pair), s.cfg = Config.irdec → s.connected = true →
    s.protocol = .za → s.bitsReceived = 0 → 1 ≤ k → k ≤ 8 →
    ps.map (pairClass s.cfg) = ((frameBits 0 c).drop k).map bitClass →
    resultsAlong (pairReports ps) s =
      List.replicate (23 - k) .incomplete ++ [.command c] ++ List.replicate 8 .incomplete

/-- 40_frame_decoder.md R151, variant ZA with address 0: a frame that lost 9 to 15 data pairs gives, on frame
pair `k + 16`, the wrong code made of frame pairs `k + 9` to `k + 16`; one that lost 16 gives `255 - c` on
frame pair 32 if bit 7 of `c` is 1 and nothing if it is 0; one that lost 17 to 31 gives nothing. -/
def Obligations.ZeroAddressVariantMisreadsFromNinePairsOn : Prop :=
  ∀ (s : State) (c : Code) (k : Nat) (ps : List Pair), s.cfg = Config.irdec → s.connected = true →
    s.protocol = .za → s.bitsReceived = 0 →
    ps.map (pairClass s.cfg) = ((frameBits 0 c).drop k).map bitClass →
    (9 ≤ k → k ≤ 15 → ∃ code : Code, byteBits code = ((frameBits 0 c).drop (k + 8)).take 8 ∧
      resultsAlong (pairReports ps) s =
        List.replicate 15 .incomplete ++ [.command code] ++ List.replicate (16 - k) .incomplete) ∧
    (k = 16 → c.getLsbD 7 = true →
      resultsAlong (pairReports ps) s = List.replicate 15 .incomplete ++ [.command (255 - c)]) ∧
    (k = 16 → c.getLsbD 7 = false →
      resultsAlong (pairReports ps) s = List.replicate 16 .incomplete) ∧
    (17 ≤ k → k ≤ 31 → resultsAlong (pairReports ps) s = List.replicate (32 - k) .incomplete)

/-- 40_frame_decoder.md R151, variant GA: a frame whose first 1 to 8 data pairs were missed gives, on frame
pair `24 + k`, the code made of frame pairs `17 + k` to `24 + k`; one that lost 9 to 31 gives none. -/
def Obligations.GeneralVariantMisreadsMidFrame : Prop :=
  ∀ (s : State) (a c : Code) (k : Nat) (ps : List Pair), s.cfg = Config.irdec → s.connected = true →
    s.protocol = .ga → s.bitsReceived = 0 →
    ps.map (pairClass s.cfg) = ((frameBits a c).drop k).map bitClass →
    (1 ≤ k → k ≤ 8 → ∃ code : Code, byteBits code = ((frameBits a c).drop (16 + k)).take 8 ∧
      resultsAlong (pairReports ps) s =
        List.replicate 23 .incomplete ++ [.command code] ++ List.replicate (8 - k) .incomplete) ∧
    (9 ≤ k → k ≤ 31 → resultsAlong (pairReports ps) s = List.replicate (32 - k) .incomplete)

/-! ## TRK and WDT -/

/-- 41_command_tracker.md R173: a command distinct from the active one displaces it: `released` of the old
first, then `pressed` of the new. The deadline is a 32-bit sum that wraps where the clock does: that is
the model's choice (log 10). -/
def Obligations.NewCommandDisplacesTheActiveOne : Prop :=
  ∀ (c : Code) (s : State), s.activeCommand ≠ some c →
    exec (.trkCmdnew c) s =
      .next { s.begin with
        repeatDeadline := s.now + BitVec.ofNat 32 s.cfg.repeatTimeout
        activeCommand := some c
        hasUnconsumedPress := true
        lastReportedCommand := some c
        events :=
          match s.activeCommand with
          | none => [⟨.pressed, c⟩]
          | some a => [⟨.released, a⟩, ⟨.pressed, c⟩] }

/-- 41_command_tracker.md R174, R175: the active command again, and a repeat code, refresh the deadline and
do nothing else. The deadline is a 32-bit sum that wraps where the clock does: that is the model's choice
(log 10). -/
def Obligations.RepetitionOnlyRefreshesTheDeadline : Prop :=
  ∀ (s : State),
    (∀ c, s.activeCommand = some c →
      exec (.trkCmdsame c) s =
        .next { s.begin with repeatDeadline := s.now + BitVec.ofNat 32 s.cfg.repeatTimeout }) ∧
    exec .trkRepeat s =
      .next { s.begin with repeatDeadline := s.now + BitVec.ofNat 32 s.cfg.repeatTimeout }

/-- 41_command_tracker.md R176: `Incomplete` changes nothing. -/
def Obligations.IncompleteChangesNothing : Prop :=
  ∀ s : State, exec .trkIncomplete s = .next s.begin

/-- 41_command_tracker.md R178, R180 (c): a check releases an active command exactly when `now` is past the
deadline, strictly; it reloads the timer by the state after the check, and writes nothing else. Before the
first CONNECT it does nothing. The reload is a 32-bit sum that wraps where the clock does, and the
comparison is made on such times as plain numbers: that is the model's choice (log 10). -/
def Obligations.WatcherReleasesPastTheDeadline : Prop :=
  ∀ s : State,
    (∀ a, s.connected = true → s.activeCommand = some a → s.repeatDeadline.toNat < s.now.toNat →
      exec .wchk s =
        .next { s.begin with
          activeCommand := none
          watchDue := s.now + BitVec.ofNat 32 s.cfg.watchIdle
          events := [⟨.released, a⟩]
          out := dispatchOne s.cfg.handlerOrder s.handlers .released a }) ∧
    (∀ a, s.connected = true → s.activeCommand = some a → s.now.toNat ≤ s.repeatDeadline.toNat →
      exec .wchk s = .next { s.begin with watchDue := s.now + BitVec.ofNat 32 s.cfg.watchActive }) ∧
    (s.connected = true → s.activeCommand = none →
      exec .wchk s = .next { s.begin with watchDue := s.now + BitVec.ofNat 32 s.cfg.watchIdle }) ∧
    (s.connected = false → exec .wchk s = .next s.begin)

/-- 20_memory.md R71: a refresh that precedes a check made within the timeout prevents the release. The
refresh is any operation of the pulse path that writes the deadline: a repeat code, the active command
again, a new command, or a SPACE that completes one of them. Whatever steps come between the refresh and
the check, they run at times from the refresh's to the timeout's end. The clock is taken not to wrap
(10_state.md R41, log 10). -/
def Obligations.RefreshBeforeACheckPreventsTheRelease : Prop :=
  ∀ (i : Instr) (s t v : State) (k : Nat) (c : Cycle), exec i s = .next t →
    (i = .trkRepeat ∨ (∃ x, i = .trkCmdsame x ∧ s.activeCommand = some x) ∨
      (∃ x, i = .trkCmdnew x ∧ s.activeCommand ≠ some x) ∨
      ∃ dur, i = .space dur ∧ (t.dres = some .repeatCode ∨ ∃ x, t.dres = some (.command x))) →
    s.connected = true → s.clockHasRoom s.cfg.watchIdle → t.noReset → t.after k = some v →
    (∀ j u, j ≤ k → t.after j = some u →
      s.now.toNat ≤ u.now.toNat ∧ u.now.toNat ≤ s.now.toNat + s.cfg.repeatTimeout) →
    c.now.toNat ≤ s.now.toNat + s.cfg.repeatTimeout →
    ∃ w, exec .wchk { v with cycle := c } = .next w ∧ w.events = [] ∧ w.out = [] ∧
      w.activeCommand = v.activeCommand

/-- 41_command_tracker.md R184: along any run between two resets the events alternate, from a state in
which nothing is held and, the button held being known, from any state. -/
def Obligations.EventsOfARunAlternate : Prop :=
  ∀ (k : Nat) (s : State), s.noReset → alternates s.activeCommand (s.eventsAlong k) = true

/-- 41_command_tracker.md R185, R186: after any run between two resets the active command is that of the
last event if it is a `pressed`, and `last_reported_command` is that of the last `pressed`. -/
def Obligations.TrackerStateIsTheLastEvents : Prop :=
  ∀ (k : Nat) (s t : State), s.noReset → s.after k = some t →
    t.activeCommand = heldAfter s.activeCommand (s.eventsAlong k) ∧
    t.lastReportedCommand = lastPressed s.lastReportedCommand (s.eventsAlong k)

/-- 41_command_tracker.md R182: a command that has just been refreshed, with nothing presented afterwards,
is released by a check later than 120 ms and at most 240 ms after its last signal, and no other event
comes before. That milliseconds pass with nothing presented is the model's clock (log 3). -/
def Obligations.SilentButtonIsReleasedInTime : Prop :=
  ∀ (s : State) (a : Code), s.cfg = Config.irdec → s.quiet → s.connected = true → s.WatchArmed →
    s.activeCommand = some a → s.repeatDeadline = s.now + 120 → s.clockHasRoom 480 →
    ∃ k t, s.after k = some t ∧ s.eventsAlong k = [⟨.released, a⟩] ∧ t.events = [⟨.released, a⟩] ∧
      t.activeCommand = none ∧ s.now.toNat + 120 < t.now.toNat ∧ t.now.toNat ≤ s.now.toNat + 240

/-- 41_command_tracker.md R177: with no active command the value of `repeat_deadline` cannot be observed,
now or later, so that "ignored" and "refresh" agree on a spurious repeat. -/
def Obligations.SpuriousRepeatIsUnobservable : Prop :=
  ∀ (k : Nat) (s : State) (x : Time), s.activeCommand = none →
    State.outputsAlong k { s with repeatDeadline := x } = State.outputsAlong k s ∧
    State.eventsAlong k { s with repeatDeadline := x } = State.eventsAlong k s

/-! ## MUX and POLL -/

/-- 42_event_dispatch.md R201, R202: an event is output once for every entry of its action that is the
wildcard or has its code, in registration order; under the other order YF allows, in the reverse. -/
def Obligations.EventReachesTheMatchingHandlersInOrder : Prop :=
  ∀ (s : State) (h : HandlerId) (c : Code),
    (s.cfg.handlerOrder = .registration →
      exec (.evPressed h c) s =
        .next { s.begin with
          out := (s.handlers.filter (fun e => e.action == .pressed && (e.any || e.code == c))).map
            (fun e => ⟨e.handler, .pressed, c⟩) } ∧
      exec (.evReleased h c) s =
        .next { s.begin with
          out := (s.handlers.filter (fun e => e.action == .released && (e.any || e.code == c))).map
            (fun e => ⟨e.handler, .released, c⟩) }) ∧
    (s.cfg.handlerOrder = .reverse →
      exec (.evPressed h c) s =
        .next { s.begin with
          out := ((s.handlers.filter (fun e => e.action == .pressed && (e.any || e.code == c))).map
            (fun e => ⟨e.handler, .pressed, c⟩)).reverse } ∧
      exec (.evReleased h c) s =
        .next { s.begin with
          out := ((s.handlers.filter (fun e => e.action == .released && (e.any || e.code == c))).map
            (fun e => ⟨e.handler, .released, c⟩)).reverse })

/-- 42_event_dispatch.md R209: a wildcard handler for each action, whose identifiers no other entry has,
together receive exactly the events of every input step, in order. -/
def Obligations.WildcardHandlersReceiveEveryEvent : Prop :=
  ∀ (s t : State) (p r : HandlerId) (x y : Code), s.inputsOnly → p ≠ r →
    s.handlers.filter (fun e => e.handler == p || e.handler == r) =
      [⟨true, x, .pressed, p⟩, ⟨true, y, .released, r⟩] →
    step s = .next t →
    t.out.filter (fun v => v.handler == p || v.handler == r) =
      t.events.map (fun e => ⟨match e.action with | .pressed => p | .released => r, e.action, e.code⟩)

/-- 42_event_dispatch.md R206: a registration is appended at slot `length(H)`; into a full table it is
dropped. The drop is what the spec says hardware does; 93_implementation_defined.md U4 would have a model
refuse instead (log 9). -/
def Obligations.RegistrationIsAppended : Prop :=
  ∀ (s : State) (h : HandlerId) (a : Action) (any : Bool) (c : Code),
    ((∀ n, s.cfg.nHandlers = some n → s.handlers.length < n) →
      exec (.onbtn h a any c) s =
        .next { s.begin with handlers := s.handlers ++ [⟨any, c, a, h⟩] }) ∧
    (∀ n, s.cfg.nHandlers = some n → n ≤ s.handlers.length → exec (.onbtn h a any c) s = .next s.begin)

/-- 42_event_dispatch.md R207, 30_encoding.md R99: LAST returns `last_reported_command`, its valid bit in
bit 8, and writes no state. -/
def Obligations.LastReturnsTheReportedCode : Prop :=
  ∀ s : State,
    (s.lastReportedCommand = none → exec .last s = .next s.begin) ∧
    (∀ c, s.lastReportedCommand = some c → ∃ w : RspWord, w.getLsbD 8 = true ∧
      w.extractLsb' 0 8 = c ∧ exec .last s = .next { s.begin with hostRsp := w })

/-- 42_event_dispatch.md R208: WAS returns `has_unconsumed_press` in bit 0 and clears it. -/
def Obligations.WasReturnsAndClearsTheFlag : Prop :=
  ∀ s : State,
    exec .was s =
      .next { s.begin with
        hostRsp := if s.hasUnconsumedPress then 0x001 else 0x000
        hasUnconsumedPress := false }

/-- 42_event_dispatch.md R210: along any run there are at most as many `WAS -> true` as `pressed` events,
one more if a press was already waiting. -/
def Obligations.WasIsTrueAtMostOncePerPress : Prop :=
  ∀ (k : Nat) (s : State),
    s.wasTrueAlong k ≤ pressCount (s.eventsAlong k) + (if s.hasUnconsumedPress then 1 else 0)

/-! ## Configuration and the idle operations -/

/-- 43_connect_and_step.md R230: the first CONNECT. The timer is a 32-bit sum that wraps where the clock
does: that is the model's choice (log 10). -/
def Obligations.FirstConnectConfigures : Prop :=
  ∀ (v : Protocol) (p : Pin) (s : State), s.connected = false →
    exec (.connect v p) s =
      .next { s.begin with
        connected := true
        protocol := v
        pinSel := p
        watchDue := s.now + BitVec.ofNat 32 s.cfg.watchIdle }

/-- 43_connect_and_step.md R231: any later CONNECT is a silent no-op. -/
def Obligations.LaterConnectIsASilentNoOp : Prop :=
  ∀ (v : Protocol) (p : Pin) (s : State), s.connected = true → exec (.connect v p) s = .next s.begin

/-- 43_connect_and_step.md R232: NOP changes nothing and answers 0, and so does a reserved `op`. For the
reserved `op` this is what the spec says hardware does; 93_implementation_defined.md U5 would have a model
refuse it instead (log 8). -/
def Obligations.NopAndReservedChangeNothing : Prop :=
  ∀ s : State, exec .nop s = .next s.begin ∧
    ∀ op : BitVec 4, 5 ≤ op.toNat → exec (.reserved op) s = .next s.begin

/-! ## The whole machine -/

/-- 10_state.md R42: every step keeps a coherent state coherent. -/
def Obligations.EveryStepKeepsCoherence : Prop :=
  ∀ s t : State, s.Coherent → step s = .next t → t.Coherent

/-- The state after reset is coherent. -/
def Obligations.ResetIsCoherent : Prop := State.reset.Coherent

/-- 41_command_tracker.md R180: every step of a run the arbiter drives keeps the watcher's timer set and
not passed, where the clock does not wrap. The times of the cycles to come are the model's (log 1, log 3). -/
def Obligations.EveryStepKeepsTheWatchArmed : Prop :=
  ∀ s t : State, s.WatchArmed → s.clockHasRoom (s.cfg.watchIdle + 1) →
    step s = .next t → t.WatchArmed

/-- The timer is armed in the state after reset, in which the watcher does not run. -/
def Obligations.ResetIsArmed : Prop := State.reset.WatchArmed

/-- 10_state.md R26 to R28: once connected, nothing but reset changes `connected`, `protocol` or
`pin_sel`. -/
def Obligations.FirstConnectionStands : Prop :=
  ∀ s t : State, s.connected = true → s.cycle.rst = false → step s = .next t →
    t.connected = true ∧ t.protocol = s.protocol ∧ t.pinSel = s.pinSel

/-- 10_state.md R42 line 6, R36: nothing but reset removes or rewrites an entry of `H`. -/
def Obligations.HandlerTableOnlyGrows : Prop :=
  ∀ s t : State, s.cycle.rst = false → step s = .next t → s.handlers <+: t.handlers

/-- 10_state.md R28: `pin_sel` is read by no rule: two machines that differ in it alone put out the same,
for ever. -/
def Obligations.PinSelectorIsNeverRead : Prop :=
  ∀ (k : Nat) (s : State) (p : Pin),
    State.outputsAlong k { s with pinSel := p } = State.outputsAlong k s

/-- 40_frame_decoder.md R150: outside the command region the accumulator cannot be observed, now or
later. -/
def Obligations.AccumulatorIsUnobservable : Prop :=
  ∀ (k : Nat) (s : State) (acc : Code), s.cfg = Config.irdec →
    (s.bitsReceived ≤ 16 ∨ 24 ≤ s.bitsReceived) →
    State.outputsAlong k { s with commandAccumulator := acc } = State.outputsAlong k s

/-- 10_state.md R23, 92_eei_decisions.md D4: a 6-bit counter saturating at 63 is indistinguishable from the
unbounded one: a step from the saturated state puts out the same and stays the saturated state. -/
def Obligations.SaturatingCounterIsEquivalent : Prop :=
  ∀ s t : State, s.cfg = Config.irdec → step s = .next t →
    ∃ u, step s.saturated = .next u ∧ u.saturated = t.saturated
end

