-- ==== Sys2Proof/Laws/Decode.lean ====
section
/-!
SUPPORT. The fields of the words of 30_encoding.md, read back out of the concatenations that build them.
-/

namespace Sys2Proof

/-! ## Concatenation -/

theorem getLsbD_append_low {a b : Nat} (x : BitVec a) (y : BitVec b) (i : Nat) (h : i < b) :
    (x ++ y).getLsbD i = y.getLsbD i := by
  rw [BitVec.getLsbD_append, if_pos h]

theorem getLsbD_append_high {a b : Nat} (x : BitVec a) (y : BitVec b) (i : Nat) (h : b ≤ i) :
    (x ++ y).getLsbD i = x.getLsbD (i - b) := by
  rw [BitVec.getLsbD_append, if_neg (by omega)]

theorem extract_append_low {a b n : Nat} (x : BitVec a) (y : BitVec b) (h : n ≤ b) :
    (x ++ y).extractLsb' 0 n = y.extractLsb' 0 n := by
  apply BitVec.eq_of_getLsbD_eq
  intro i hi
  simp only [BitVec.getLsbD_extractLsb', Nat.zero_add]
  rw [getLsbD_append_low x y i (by omega)]

theorem extract_append_high {a b : Nat} (k n : Nat) (x : BitVec a) (y : BitVec b) (h : b ≤ k) :
    (x ++ y).extractLsb' k n = x.extractLsb' (k - b) n := by
  apply BitVec.eq_of_getLsbD_eq
  intro i hi
  simp only [BitVec.getLsbD_extractLsb']
  rw [getLsbD_append_high x y _ (by omega)]
  congr 2; omega

theorem extract_whole {a : Nat} (x : BitVec a) : x.extractLsb' 0 a = x := by
  apply BitVec.eq_of_getLsbD_eq
  intro i hi
  simp [hi]

theorem Protocol.ofBit_bit (v : Protocol) : Protocol.ofBit v.bit = v := by cases v <;> rfl

theorem Action.ofBit_bit (a : Action) : Action.ofBit a.bit = a := by cases a <;> rfl

/-! ## P-PLS (R96) -/

theorem decodePulse_pulseWord (kind : Bool) (dur : Duration) :
    decodePulse (pulseWord kind dur) = if kind then .space dur else .mark dur := by
  unfold decodePulse pulseWord
  rw [getLsbD_append_high _ _ 16 (by omega), extract_append_low _ _ (by omega), extract_whole]
  cases kind <;> rfl

/-! ## I-DRES (R101) -/

theorem dresWord_tag (tag : BitVec 2) (c : Code) : (dresWord tag c).extractLsb' 8 2 = tag := by
  unfold dresWord
  rw [extract_append_high 8 2 _ _ (by omega), extract_whole]

theorem dresWord_code (tag : BitVec 2) (c : Code) : (dresWord tag c).extractLsb' 0 8 = c := by
  unfold dresWord
  rw [extract_append_low _ _ (by omega), extract_whole]

theorem decodeDres_command (k : Select) (c : Code) :
    decodeDres k (dresWord 0#2 c) = some (if k.active = some c then .trkCmdsame c else .trkCmdnew c) := by
  unfold decodeDres
  rw [dresWord_tag, dresWord_code]
  show (if k.active = some c then _ else _) = _
  split <;> rfl

theorem decodeDres_repeat (k : Select) (c : Code) : decodeDres k (dresWord 1#2 c) = some .trkRepeat := by
  unfold decodeDres
  rw [dresWord_tag]
  rfl

theorem decodeDres_incomplete (k : Select) (c : Code) :
    decodeDres k (dresWord 2#2 c) = some .trkIncomplete := by
  unfold decodeDres
  rw [dresWord_tag]
  rfl

theorem decodeDres_never (k : Select) (c : Code) : decodeDres k (dresWord 3#2 c) = none := by
  unfold decodeDres
  rw [dresWord_tag]
  rfl

/-! ## P-INV (R100) -/

theorem invWord_handler (h : HandlerId) (a : Action) (c : Code) :
    (invWord h a c).extractLsb' 10 16 = h := by
  unfold invWord
  rw [extract_append_high 10 16 _ _ (by omega), extract_append_high _ 16 _ _ (by omega),
    extract_append_high _ 16 _ _ (by omega), extract_whole]

theorem invWord_action (h : HandlerId) (a : Action) (c : Code) :
    (invWord h a c).getLsbD 9 = a.bit := by
  unfold invWord
  rw [getLsbD_append_high _ _ 9 (by omega), getLsbD_append_high _ _ _ (by omega),
    getLsbD_append_low _ _ _ (by omega)]
  cases a <;> rfl

theorem invWord_reserved (h : HandlerId) (a : Action) (c : Code) :
    (invWord h a c).getLsbD 8 = false := by
  unfold invWord
  rw [getLsbD_append_high _ _ 8 (by omega), getLsbD_append_low _ _ _ (by omega)]
  rfl

theorem invWord_code (h : HandlerId) (a : Action) (c : Code) :
    (invWord h a c).extractLsb' 0 8 = c := by
  unfold invWord
  rw [extract_append_low _ _ (by omega), extract_whole]

/-! ## P-HCMD (R97, R98) -/

/-- The operation field stands above the 28 other bits. -/
theorem op_append (op : BitVec 4) (r : BitVec 28) : (op ++ r).extractLsb' 28 4 = op := by
  rw [extract_append_high 28 4 _ _ (by omega), extract_whole]

end Sys2Proof
end

