-- ==== Sys2Proof/Laws/PerInstr.lean ====
section
/-!
SUPPORT. A statement about every operation, one lemma per constructor: which operations come as a word
from the outside or the timer, and which as a word on a bus between two stages (30_encoding.md R104, R105).
-/

namespace Sys2Proof.Laws.InputPort

/-- The word of an operation is an input of 43_connect_and_step.md R236 exactly when the operation is not a
case of a stage. -/
def Statement (i : Instr) : Prop :=
  (encode i).isInput = true ↔ Machine.isStageCase i = false

theorem mark (dur : Duration) : Statement (.mark dur) := ⟨fun _ => rfl, fun _ => rfl⟩
theorem space (dur : Duration) : Statement (.space dur) := ⟨fun _ => rfl, fun _ => rfl⟩
theorem symZero (d : Duration) : Statement (.symZero d) := ⟨nofun, nofun⟩
theorem symOne (d : Duration) : Statement (.symOne d) := ⟨nofun, nofun⟩
theorem symRepeat (d : Duration) : Statement (.symRepeat d) := ⟨nofun, nofun⟩
theorem symStart (d : Duration) : Statement (.symStart d) := ⟨nofun, nofun⟩
theorem symLong (d : Duration) : Statement (.symLong d) := ⟨nofun, nofun⟩
theorem bitAddr (b : Bool) : Statement (.bitAddr b) := ⟨nofun, nofun⟩
theorem bitResync : Statement .bitResync := ⟨nofun, nofun⟩
theorem bitInvaddr (b : Bool) : Statement (.bitInvaddr b) := ⟨nofun, nofun⟩
theorem bitCmd (b : Bool) : Statement (.bitCmd b) := ⟨nofun, nofun⟩
theorem bitCmdlast (b : Bool) : Statement (.bitCmdlast b) := ⟨nofun, nofun⟩
theorem bitInvcmd (b : Bool) : Statement (.bitInvcmd b) := ⟨nofun, nofun⟩
theorem trkCmdnew (c : Code) : Statement (.trkCmdnew c) := ⟨nofun, nofun⟩
theorem trkCmdsame (c : Code) : Statement (.trkCmdsame c) := ⟨nofun, nofun⟩
theorem trkRepeat : Statement .trkRepeat := ⟨nofun, nofun⟩
theorem trkIncomplete : Statement .trkIncomplete := ⟨nofun, nofun⟩
theorem wchk : Statement .wchk := ⟨fun _ => rfl, fun _ => rfl⟩
theorem evPressed (handler : HandlerId) (code : Code) : Statement (.evPressed handler code) := ⟨nofun, nofun⟩
theorem evReleased (handler : HandlerId) (code : Code) : Statement (.evReleased handler code) := ⟨nofun, nofun⟩
theorem nop : Statement .nop := ⟨fun _ => rfl, fun _ => rfl⟩
theorem connect (variant : Protocol) (pin : Pin) : Statement (.connect variant pin) := ⟨fun _ => rfl, fun _ => rfl⟩
theorem onbtn (handler : HandlerId) (action : Action) (any : Bool) (code : Code) :
    Statement (.onbtn handler action any code) := ⟨fun _ => rfl, fun _ => rfl⟩
theorem last : Statement .last := ⟨fun _ => rfl, fun _ => rfl⟩
theorem was : Statement .was := ⟨fun _ => rfl, fun _ => rfl⟩
theorem reserved (op : BitVec 4) : Statement (.reserved op) := ⟨fun _ => rfl, fun _ => rfl⟩

end Sys2Proof.Laws.InputPort
end

