-- ==== Sys2Proof/Tests/Slice0.lean ====
section
/-!
SUPPORT. Tests. Expected results are those of spec/95_test_vectors.md, whose vector each test names, or of
the rule it names; the witness theorems at the end show, for each obligation with hypotheses, a state and
operands that meet them.
-/

namespace Sys2Proof.Tests

open Sys2Proof.Machine

/-! ## Small states -/

/-- Connected, variant ZA, nothing received. -/
def live : State := { State.reset with connected := true }

/-- Connected, in variant `p`, `n` data pairs received, the accumulator at 0xB5 (section 2.3). -/
def counting (p : Protocol) (n : Nat) : State :=
  { live with protocol := p, bitsReceived := n, commandAccumulator := 0xB5 }

/-- A tracker state at time `now` (sections 2.4 and 2.5). -/
def tracking (active : Option Code) (deadline : Time) (last : Option Code) (flag : Bool) (now : Time) :
    State :=
  { live with
    activeCommand := active
    repeatDeadline := deadline
    lastReportedCommand := last
    hasUnconsumedPress := flag
    cycle := { now := now, rst := false, pulse := none, host := none } }

/-- The table `Ht` of section 2.6. -/
def tableHt : List Entry :=
  [⟨true, 0, .pressed, 1⟩, ⟨false, 0xA2, .pressed, 3⟩, ⟨true, 0, .released, 2⟩,
    ⟨false, 0x00, .pressed, 4⟩, ⟨false, 0xA2, .released, 5⟩, ⟨false, 0xA2, .pressed, 3⟩]

/-- What the decoder reads of a state, with count `n` and active command `a`. -/
def sel (p : Protocol) (n : Nat) (a : Option Code) : Select :=
  { cfg := Config.irdec, protocol := p, count := n, active := a }

/-- The pair that carries a data bit: `PAIR 2000` or `PAIR 1000` (section 3). -/
def bitPair (b : Bool) : Pair := if b then (1000, 1000) else (500, 500)

/-! ## Well-formedness: an ill-formed term for each check, refused -/

theorem test_ill_formed_symZero : (Instr.symZero 1600).wellFormed Config.irdec = false := by decide
theorem test_ill_formed_symOne_low : (Instr.symOne 1599).wellFormed Config.irdec = false := by decide
theorem test_ill_formed_symOne_high : (Instr.symOne 2700).wellFormed Config.irdec = false := by decide
theorem test_ill_formed_symRepeat_low : (Instr.symRepeat 2699).wellFormed Config.irdec = false := by decide
theorem test_ill_formed_symRepeat_high : (Instr.symRepeat 12500).wellFormed Config.irdec = false := by decide
theorem test_ill_formed_symStart_low : (Instr.symStart 12499).wellFormed Config.irdec = false := by decide
theorem test_ill_formed_symStart_high : (Instr.symStart 14500).wellFormed Config.irdec = false := by decide
theorem test_ill_formed_symLong : (Instr.symLong 14499).wellFormed Config.irdec = false := by decide
theorem test_ill_formed_reserved : (Instr.reserved 4).wellFormed Config.irdec = false := by decide
theorem test_thresholds_out_of_order :
    ({ Config.irdec with tSync := 1600 } : Config).thresholdsOrdered = false := by decide

/-! ## Decoding words written out from the encodings of 30_encoding.md -/

/-- P-PLS (R96): kind 0 with 560 = 0x0230, kind 1 with 1690 = 0x069A; the widest words. -/
theorem test_decode_pulse :
    decode Select.reset (.pulse 0x00230) = some (.mark 560) ∧
    decode Select.reset (.pulse 0x1069A) = some (.space 1690) ∧
    decode Select.reset (.pulse 0x0FFFF) = some (.mark 65535) ∧
    decode Select.reset (.pulse 0x10000) = some (.space 0) := by decide

/-- W-SYM (R91): each band at its lowest and highest duration (V-D1 to V-D14). -/
theorem test_decode_sym_low :
    decode Select.reset (.sym 0) = some (.symZero 0) ∧
    decode Select.reset (.sym 1600) = some (.symOne 1600) ∧
    decode Select.reset (.sym 2700) = some (.symRepeat 2700) ∧
    decode Select.reset (.sym 12500) = some (.symStart 12500) ∧
    decode Select.reset (.sym 14500) = some (.symLong 14500) := by decide
theorem test_decode_sym_high :
    decode Select.reset (.sym 1599) = some (.symZero 1599) ∧
    decode Select.reset (.sym 2699) = some (.symOne 2699) ∧
    decode Select.reset (.sym 12499) = some (.symRepeat 12499) ∧
    decode Select.reset (.sym 14499) = some (.symStart 14499) ∧
    decode Select.reset (.sym 65535) = some (.symLong 65535) := by decide

/-- W-FRM (R92): the cases by incremented count, at both ends of each region (V-B1 to V-B56). -/
theorem test_decode_bit_ga :
    decode (sel .ga 8 none) (.bit true) = some (.bitAddr true) ∧
    decode (sel .ga 9 none) (.bit true) = some (.bitInvaddr true) ∧
    decode (sel .ga 16 none) (.bit false) = some (.bitInvaddr false) ∧
    decode (sel .ga 17 none) (.bit true) = some (.bitCmd true) ∧
    decode (sel .ga 23 none) (.bit false) = some (.bitCmd false) ∧
    decode (sel .ga 24 none) (.bit true) = some (.bitCmdlast true) ∧
    decode (sel .ga 25 none) (.bit false) = some (.bitInvcmd false) := by decide
theorem test_decode_bit_za :
    decode (sel .za 1 none) (.bit true) = some .bitResync ∧
    decode (sel .za 8 none) (.bit true) = some .bitResync ∧
    decode (sel .za 8 none) (.bit false) = some (.bitAddr false) ∧
    decode (sel .za 9 none) (.bit true) = some (.bitInvaddr true) := by decide

/-- I-DRES (R101): tags 0b00 to 0b10, and the tag 0b11 that is never produced. -/
theorem test_decode_dres :
    decode (sel .za 1 none) (.dres 0x0A2) = some (.trkCmdnew 0xA2) ∧
    decode (sel .za 1 (some 0x22)) (.dres 0x0A2) = some (.trkCmdnew 0xA2) ∧
    decode (sel .za 1 (some 0xA2)) (.dres 0x0A2) = some (.trkCmdsame 0xA2) ∧
    decode (sel .za 1 none) (.dres 0x100) = some .trkRepeat ∧
    decode (sel .za 1 none) (.dres 0x200) = some .trkIncomplete ∧
    decode (sel .za 1 none) (.dres 0x300) = none := by decide

/-- The row's mask 0x300: bits 7:0 under the tag of `Repeat` are not looked at (log 20). -/
theorem test_decode_dres_mask : decode (sel .za 1 none) (.dres 0x1FF) = some .trkRepeat := by decide

/-- The watcher's expiry (41_command_tracker.md R178). -/
theorem test_decode_timer : decode Select.reset .timer = some .wchk := by decide

/-- P-INV (R100): V-X1, V-X2, V-X10, and a word with its reserved bit 8 set. -/
theorem test_decode_inv :
    decode Select.reset (.inv 0x0000CA2) = some (.evPressed 3 0xA2) ∧
    decode Select.reset (.inv 0x00016A2) = some (.evReleased 5 0xA2) ∧
    decode Select.reset (.inv 0x3FFFEFF) = some (.evReleased 65535 0xFF) ∧
    decode Select.reset (.inv 0x0000DA2) = none := by decide

/-- P-HCMD (R97, R98): V-H1 to V-H7. -/
theorem test_decode_host_nop_connect :
    decode Select.reset (.host 0x00000000) = some .nop ∧
    decode Select.reset (.host 0x0FFFFFFF) = some .nop ∧
    decode Select.reset (.host 0x10000101) = some (.connect .ga 1) ∧
    decode Select.reset (.host 0x1ABCDE05) = some (.connect .za 5) ∧
    decode Select.reset (.host 0x1FFFFFFF) = some (.connect .ga 255) := by decide

/-- P-HCMD: V-H8 to V-H14. -/
theorem test_decode_host_onbtn :
    decode Select.reset (.host 0x20000500) = some (.onbtn 1 .pressed true 0) ∧
    decode Select.reset (.host 0x20000B00) = some (.onbtn 2 .released true 0) ∧
    decode Select.reset (.host 0x20000CA2) = some (.onbtn 3 .pressed false 0xA2) ∧
    decode Select.reset (.host 0x23FFFEFF) = some (.onbtn 65535 .released false 0xFF) ∧
    decode Select.reset (.host 0x2C000500) = some (.onbtn 1 .pressed true 0) := by decide

/-- P-HCMD: V-H15 to V-H21. -/
theorem test_decode_host_rest :
    decode Select.reset (.host 0x30000000) = some .last ∧
    decode Select.reset (.host 0x3FFFFFFF) = some .last ∧
    decode Select.reset (.host 0x4000FFFF) = some .was ∧
    decode Select.reset (.host 0x50000000) = some (.reserved 5) ∧
    decode Select.reset (.host 0xFFFFFFFF) = some (.reserved 15) := by decide

/-- The encoder writes the words of V-A1, V-X10, V-H4 and V-H12. -/
theorem test_encode :
    encode (.mark 560) = .pulse 0x00230 ∧ encode (.evReleased 65535 0xFF) = .inv 0x3FFFEFF ∧
    encode (.connect .ga 1) = .host 0x10000101 ∧
    encode (.onbtn 65535 .released false 0xFF) = .host 0x23FFFEFF := by decide

/-- Words of the opcode table, by their length in bits. -/
theorem test_table_words :
    decodeTableWord 24 0x10000 = some (.space 0) ∧ decodeTableWord 16 0x100 = some .trkRepeat ∧
    decodeTableWord 32 0x20000CA2 = some (.onbtn 3 .pressed false 0xA2) ∧
    decodeTableWord 32 0x00016A2 = some (.evReleased 5 0xA2) := by decide

/-! ## ACC: section 2.1 -/

theorem test_mark_latches : (execResult (.mark 560) live).markLatch = 560 := by decide
/-- V-A10. -/
theorem test_mark_before_connect : (execResult (.mark 560) State.reset).markLatch = 0 := by decide
/-- V-A6: 35000 + 35000 saturates, class LONG; a wrapping adder would give a Repeat. -/
theorem test_space_saturates :
    (execResult (.space 35000) { counting .ga 5 with markLatch := 35000 }).dres = some .incomplete ∧
    (execResult (.space 35000) { counting .ga 5 with markLatch := 35000 }).bitsReceived = 0 := by decide
/-- E2: the 24th pair of a frame gives the command, a press, and the record of a wildcard handler. -/
theorem test_space_completes_a_command :
    (execResult (.space 500)
      { counting .za 23 with
        commandAccumulator := 0x51, markLatch := 500, handlers := [⟨true, 0, .pressed, 1⟩] }).out =
      [⟨1, .pressed, 0xA2⟩] := by decide

/-! ## DISC: section 2.2 -/

/-- V-D17. -/
theorem test_symZero : (execResult (.symZero 1599) (counting .za 5)).bitsReceived = 6 := by decide
theorem test_symZero_shifts_0 :
    (execResult (.symZero 0) (counting .ga 16)).commandAccumulator = 0x6A := by decide
/-- V-D18. -/
theorem test_symOne : (execResult (.symOne 1600) (counting .za 5)).bitsReceived = 9 := by decide
/-- V-D4. -/
theorem test_symOne_ga : (execResult (.symOne 1600) (counting .ga 5)).bitsReceived = 6 := by decide
/-- V-D7. -/
theorem test_symRepeat :
    (execResult (.symRepeat 8000) (counting .ga 5)).dres = some .repeatCode ∧
    (execResult (.symRepeat 8000) (counting .ga 5)).bitsReceived = 0 := by decide
/-- V-D24. -/
theorem test_symStart :
    (execResult (.symStart 13000) (counting .za 5)).dres = some .incomplete ∧
    (execResult (.symStart 13000) (counting .za 5)).bitsReceived = 0 := by decide
/-- V-D13; the accumulator stays (R140). -/
theorem test_symLong :
    (execResult (.symLong 40000) (counting .ga 5)).bitsReceived = 0 ∧
    (execResult (.symLong 40000) (counting .ga 5)).commandAccumulator = 0xB5 := by decide

/-! ## SYNC: section 2.3 -/

/-- V-B6. -/
theorem test_bitAddr : (execResult (.bitAddr true) (counting .ga 7)).bitsReceived = 8 := by decide
/-- V-B34. -/
theorem test_bitResync : (execResult .bitResync (counting .za 7)).bitsReceived = 9 := by decide
/-- V-RS3: under FIRST_ONLY a 1 on the second pair is ignored. -/
theorem test_bitAddr_first_only :
    (execResult (.bitAddr true)
      { counting .za 1 with cfg := { Config.irdec with resyncRule := .firstOnly } }).bitsReceived = 2 := by
  decide
/-- V-B38. -/
theorem test_bitInvaddr :
    (execResult (.bitInvaddr true) (counting .za 15)).bitsReceived = 16 ∧
    (execResult (.bitInvaddr true) (counting .za 15)).commandAccumulator = 0xB5 := by decide
/-- V-B12. -/
theorem test_bitCmd :
    (execResult (.bitCmd true) (counting .ga 16)).commandAccumulator = 0x6B ∧
    (execResult (.bitCmd true) (counting .ga 16)).dres = some .incomplete := by decide
/-- V-B15. -/
theorem test_bitCmdlast :
    (execResult (.bitCmdlast false) (counting .ga 23)).dres = some (.command 0x6A) ∧
    (execResult (.bitCmdlast false) (counting .ga 23)).bitsReceived = 24 := by decide
/-- V-B18, V-B28. -/
theorem test_bitInvcmd :
    (execResult (.bitInvcmd true) (counting .ga 24)).bitsReceived = 25 ∧
    (execResult (.bitInvcmd true) (counting .ga 1000)).bitsReceived = 1001 := by decide

/-! ## TRK and WDT: sections 2.4 and 2.5 -/

/-- V-T4: released before pressed. -/
theorem test_trkCmdnew_displaces :
    (execResult (.trkCmdnew 0x07) (tracking (some 0x03) 1120 (some 0x03) false 1050)).events =
      [⟨.released, 0x03⟩, ⟨.pressed, 0x07⟩] := by decide
/-- V-T11: code 0 is not "none". -/
theorem test_trkCmdnew_code_zero :
    (execResult (.trkCmdnew 0x00) (tracking none 0 none false 0)).activeCommand = some 0x00 ∧
    (execResult (.trkCmdnew 0x00) (tracking none 0 none false 0)).repeatDeadline = 120 := by decide
/-- V-T3: the flag stays consumed. -/
theorem test_trkCmdsame :
    (execResult (.trkCmdsame 0x05) (tracking (some 0x05) 1120 (some 0x05) false 1050)).repeatDeadline =
      1170 ∧
    (execResult (.trkCmdsame 0x05) (tracking (some 0x05) 1120 (some 0x05) false 1050)).hasUnconsumedPress =
      false := by decide
/-- V-T7: a spurious repeat writes the deadline, and nothing else. -/
theorem test_trkRepeat :
    (execResult .trkRepeat (tracking none 0 none false 1100)).repeatDeadline = 1220 ∧
    (execResult .trkRepeat (tracking none 0 none false 1100)).activeCommand = none := by decide
/-- V-T9. -/
theorem test_trkIncomplete :
    (execResult .trkIncomplete (tracking (some 0x05) 1120 (some 0x05) false 1119)).repeatDeadline =
      1120 := by decide
/-- V-W2: no release at the deadline. -/
theorem test_wchk_at_the_deadline :
    (execResult .wchk (tracking (some 0x05) 1120 (some 0x05) false 1120)).activeCommand = some 0x05 ∧
    (execResult .wchk (tracking (some 0x05) 1120 (some 0x05) false 1120)).watchDue = 1240 := by decide
/-- V-W3: release one millisecond later, and the idle sleep. -/
theorem test_wchk_past_the_deadline :
    (execResult .wchk (tracking (some 0x05) 1120 (some 0x05) false 1121)).events = [⟨.released, 0x05⟩] ∧
    (execResult .wchk (tracking (some 0x05) 1120 (some 0x05) false 1121)).watchDue = 1361 := by decide

/-! ## MUX and the host operations: sections 2.6 and 2.7 -/

/-- V-X1. -/
theorem test_evPressed :
    (execResult (.evPressed 0 0xA2) { live with handlers := tableHt }).out =
      [⟨1, .pressed, 0xA2⟩, ⟨3, .pressed, 0xA2⟩, ⟨3, .pressed, 0xA2⟩] := by decide
/-- V-X2, the other order. -/
theorem test_evReleased_reverse :
    (execResult (.evReleased 0 0xA2)
      { live with handlers := tableHt, cfg := { Config.irdec with handlerOrder := .reverse } }).out =
      [⟨5, .released, 0xA2⟩, ⟨2, .released, 0xA2⟩] := by decide
/-- V-X2 and V-X10, as words of the P-INV port. -/
theorem test_record_words :
    (execResult (.evReleased 0 0xA2) { live with handlers := tableHt }).out.map Invocation.word =
      [0x0000AA2, 0x00016A2] := by decide
/-- V-P7. -/
theorem test_nop : execResult .nop live = live := by decide
/-- V-C1. -/
theorem test_connect :
    (execResult (.connect .ga 2) { tracking none 0 none false 1000 with connected := false }).watchDue =
      1240 ∧
    (execResult (.connect .ga 2) { tracking none 0 none false 1000 with connected := false }).protocol =
      .ga := by decide
/-- V-C3. -/
theorem test_connect_again :
    execResult (.connect .za 5) { live with protocol := .ga, pinSel := 2 } =
      { live with protocol := .ga, pinSel := 2 } := by decide
/-- V-O1, V-O2: a duplicate is appended. -/
theorem test_onbtn :
    (execResult (.onbtn 1 .pressed true 0) { State.reset with handlers := [⟨true, 0, .pressed, 1⟩] }).handlers =
      [⟨true, 0, .pressed, 1⟩, ⟨true, 0, .pressed, 1⟩] := by decide
/-- V-O3, hardware's side: a full table drops the registration (log 9). -/
theorem test_onbtn_full :
    (execResult (.onbtn 1 .pressed true 0)
      { State.reset with cfg := { Config.irdec with nHandlers := some 0 } }).handlers = [] := by decide
/-- V-P1, V-P3. -/
theorem test_last :
    (execResult .last State.reset).hostRsp = 0x000 ∧
    (execResult .last (tracking none 0 (some 0x00) true 0)).hostRsp = 0x100 := by decide
/-- V-P4. -/
theorem test_was :
    (execResult .was (tracking none 0 (some 0x00) true 0)).hostRsp = 0x001 ∧
    (execResult .was (tracking none 0 (some 0x00) true 0)).hasUnconsumedPress = false := by decide
/-- V-H19, hardware's side (log 8). -/
theorem test_reserved : execResult (.reserved 5) live = live := by decide

/-! ## The step -/

/-- V-ARB4's first step: the pulse is taken before the check, and the check is due after it. -/
def arbiterState : State :=
  { tracking (some 0x05) 300 (some 0x05) false 360 with
    watchDue := 360
    markLatch := 4000
    cycle := { now := 360, rst := false, pulse := some 0x10FA0, host := some 0x30000000 } }

theorem test_pulse_before_watcher :
    (arbiterState.after 1).map (fun t => (t.repeatDeadline, t.watchDue)) = some (480, 360) := by decide
theorem test_watcher_before_host :
    (arbiterState.after 2).map (fun t => (t.events, t.watchDue)) = some ([], 480) := by decide
theorem test_host_last : (arbiterState.after 3).map (fun t => t.hostRsp) = some 0x105 := by decide
theorem test_idle_ticks : (State.reset.after 1).map (fun t => t.now) = some 1 := by decide
theorem test_fetch_word :
    ((State.reset.withFetchWord 32 0x10000102).after 1).map (fun t => (t.protocol, t.pinSel)) =
      some (.ga, 2) := by decide

/-! ## Witnesses: states and operands that meet the hypotheses of the obligations -/

theorem wit_ResetLineResetsEveryField :
    ({ live with cycle := { now := 7, rst := true, pulse := some 0x00230, host := some 0 } } : State).cycle.rst =
      true := by decide

theorem wit_DecodeOfEncodeIsTheOperation :
    (Instr.symOne 1600).wellFormed Select.reset.cfg = true ∧ (Instr.symOne 1600).selected Select.reset = true ∧
    (Instr.reserved 15).wellFormed Select.reset.cfg = true ∧
    (Instr.reserved 15).selected Select.reset = true := by decide

theorem wit_DecodedOperationIsSelected :
    decode (sel .ga 24 none) (.bit true) = some (.bitCmdlast true) := by decide

theorem wit_HostWordFieldsAndReservedBits : 5 ≤ (5#4).toNat ∧ 5 ≤ (15#4).toNat := by decide

theorem wit_SymbolBandsAreHalfOpen :
    Config.irdec.thresholdsOrdered = true ∧
    ({ Config.irdec with tStartHi := 12500 } : Config).thresholdsOrdered = true := by decide

/-- A state with one line of script, connected and with its watcher due. -/
def scripted (w : BusWord) : State := { live with script := [{ now := 3, word := w }] }

theorem wit_StepRunsTheDecodedOperation_script :
    (scripted (.pulse 0x00230)).cycle.rst = false ∧
    (scripted (.pulse 0x00230)).script = { now := 3, word := .pulse 0x00230 } :: [] ∧
    decode (scripted (.pulse 0x00230)).select (.pulse 0x00230) = some (.mark 560) := by decide

theorem wit_StepRunsTheDecodedOperation_ports :
    arbiterState.cycle.rst = false ∧ arbiterState.script = [] ∧
    arbiterState.cycle.pulse = some 0x10FA0 ∧
    live.cycle.rst = false ∧ live.script = [] ∧ live.cycle.pulse = none ∧ live.connected = true ∧
    live.now = live.watchDue := by decide

theorem wit_StepRunsTheDecodedOperation_host :
    ({ State.reset with cycle := { State.reset.cycle with host := some 0 } } : State).cycle.pulse = none ∧
    ¬(State.reset.connected = true ∧ State.reset.now = State.reset.watchDue) := by decide

theorem wit_StepRunsTheDecodedOperation_idle :
    State.reset.cycle.rst = false ∧ State.reset.script = [] ∧ State.reset.cycle.pulse = none ∧
    ¬(State.reset.connected = true ∧ State.reset.now = State.reset.watchDue) ∧
    State.reset.cycle.host = none := by decide

theorem wit_StageWordOfNoOperationIsRefused :
    (scripted (.dres (dresWord 3#2 0))).cycle.rst = false ∧
    (scripted (.dres (dresWord 3#2 0))).script = { now := 3, word := .dres (dresWord 3#2 0) } :: [] ∧
    (scripted (.inv 0x0000DA2)).cycle.rst = false ∧
    (scripted (.inv 0x0000DA2)).script = { now := 3, word := .inv 0x0000DA2 } :: [] ∧
    (0x0000DA2 : InvWord).getLsbD 8 = true := by
  decide

theorem wit_EveryInputDrivenStepCompletes : (scripted (.host 0x30000000)).inputsOnly := by
  intro l hl
  have : l = { now := 3, word := .host 0x30000000 } := by simpa [scripted] using hl
  subst this
  rfl

theorem wit_InputsOfOneCycleTakeEffectInOrder :
    arbiterState.cfg = Config.irdec ∧ arbiterState.cycle.rst = false ∧ arbiterState.script = [] ∧
    arbiterState.cycle.pulse = some 0x10FA0 ∧ arbiterState.cycle.host = some 0x30000000 ∧
    arbiterState.connected = true ∧ arbiterState.now = arbiterState.watchDue := by decide

theorem wit_UnselectedCaseDoesNothing :
    (Instr.bitCmd true).selected live.select = false ∧
    (Instr.trkCmdsame 5).selected live.select = false := by decide

theorem wit_MarkLatchesTheDuration : live.connected = true ∧ State.reset.connected = false := by decide

theorem wit_BeforeConnectPulsesAreDropped :
    State.reset.connected = false ∧ State.reset.cfg.nHandlers = none := by decide

theorem wit_SpaceIsItsStagesInOrder :
    (counting .ga 23).connected = true ∧ State.reset.connected = false := by decide

/-- The last pair of a command that displaces the active one, with handlers of either code registered. -/
def displacing : State :=
  { counting .ga 23 with
    activeCommand := some 0xA2
    handlers := [⟨false, 0x6B, .pressed, 4⟩, ⟨false, 0xA2, .released, 5⟩, ⟨false, 0xA2, .pressed, 3⟩] }

/-- The clause of a displacing command: 0x6B displaces 0xA2, and the records of the release come first. -/
theorem wit_SpaceIsItsStagesInOrder_displacing :
    displacing.connected = true ∧ displacing.activeCommand = some 0xA2 ∧
    (execResult (.space 1700) displacing).dres = some (.command 0x6B) ∧
    (execResult (.space 1700) displacing).out = [⟨5, .released, 0xA2⟩, ⟨4, .pressed, 0x6B⟩] := by decide

theorem wit_OnlyTheSumOfAPairMatters :
    live.connected = true ∧ (560 : Duration).toNat + (1690 : Duration).toNat =
      (1125 : Duration).toNat + (1125 : Duration).toNat ∧
    Config.irdec.thresholdsOrdered = true ∧ Config.irdec.tStartHi ≤ 65535 := by decide

theorem wit_DataSymbolsPushTheirBit :
    live.cfg.thresholdsOrdered = true ∧ (1599 : Duration).toNat < live.cfg.tOne ∧
    live.cfg.tOne ≤ (1600 : Duration).toNat ∧ (2699 : Duration).toNat < live.cfg.tSync := by decide

theorem wit_SyncSymbolsClearTheCount :
    live.cfg.thresholdsOrdered = true ∧
    live.cfg.tSync ≤ (2700 : Duration).toNat ∧ (12499 : Duration).toNat < live.cfg.tStartLo ∧
    live.cfg.tStartLo ≤ (12500 : Duration).toNat ∧ (14499 : Duration).toNat < live.cfg.tStartHi ∧
    live.cfg.tStartHi ≤ (14500 : Duration).toNat := by decide

theorem wit_DataSymbolIsItsBitCase :
    classify live.cfg 1599 = .zero ∧ classify live.cfg 1600 = .one := by decide

theorem wit_IgnoredBitsAreOnlyCounted :
    (counting .za 7).cfg = Config.irdec ∧ (counting .za 7).bitsReceived + 1 ≤ 8 ∧
    ¬((counting .za 7).protocol = .za ∧ false = true) ∧
    9 ≤ (counting .za 8).bitsReceived + 1 ∧ (counting .za 15).bitsReceived + 1 ≤ 16 ∧
    25 ≤ (counting .za 24).bitsReceived + 1 := by decide

theorem wit_ResyncForcesTheCountToNine :
    (counting .za 7).cfg = Config.irdec ∧ (counting .za 7).protocol = .za ∧
    (counting .za 7).bitsReceived + 1 ≤ 8 := by decide

/-- A state of the `FIRST_ONLY` reading. -/
def firstOnly (n : Nat) : State :=
  { counting .za n with cfg := { Config.irdec with resyncRule := .firstOnly } }

theorem wit_FirstOnlyResyncsOnTheFirstPair :
    (firstOnly 0).cfg = { Config.irdec with resyncRule := .firstOnly } ∧ (firstOnly 0).protocol = .za ∧
    (firstOnly 0).bitsReceived + 1 ≤ 8 ∧ (firstOnly 0).bitsReceived + 1 = 1 ∧
    (firstOnly 7).bitsReceived + 1 ≤ 8 ∧ (firstOnly 7).bitsReceived + 1 ≠ 1 := by decide

theorem wit_CommandBitIsShiftedIn :
    (counting .ga 16).cfg = Config.irdec ∧ 17 ≤ (counting .ga 16).bitsReceived + 1 ∧
    (counting .ga 22).bitsReceived + 1 ≤ 23 := by decide

theorem wit_LastCommandBitReturnsTheCommand :
    (counting .ga 23).cfg = Config.irdec ∧ (counting .ga 23).bitsReceived + 1 = 24 := by decide

theorem wit_CountAfterAPair :
    (counting .za 7).cfg = Config.irdec ∧ (counting .za 7).connected = true ∧
    2700 ≤ (pairDuration (counting .za 7).markLatch 2700).toNat ∧
    (pairDuration (counting .za 7).markLatch 2699).toNat < 2700 := by decide

theorem wit_CommandComesOnlyAtCountTwentyFour :
    (counting .ga 23).cfg = Config.irdec ∧ (counting .ga 23).connected = true ∧
    ∃ t, exec (.space 2699) (counting .ga 23) = .next t := ⟨by decide, by decide, _, rfl⟩

theorem wit_EightCommandPairsGiveTheirCode :
    (counting .ga 16).cfg = Config.irdec ∧ (counting .ga 16).connected = true ∧
    (counting .ga 16).bitsReceived = 16 ∧
    ((byteBits 0xC3).map bitPair).map (pairClass (counting .ga 16).cfg) = (byteBits 0xC3).map bitClass := by
  decide

theorem wit_WellFormedFrameGivesItsCommand :
    (counting .ga 17).cfg = Config.irdec ∧ (counting .ga 17).connected = true ∧
    (counting .ga 17).protocol = .ga ∧ pairClass (counting .ga 17).cfg (6500, 6500) = .start ∧
    ((frameBits 0x5A 0x03).map bitPair).map (pairClass (counting .ga 17).cfg) =
      (frameBits 0x5A 0x03).map bitClass := by decide

theorem wit_ZeroAddressVariantRecoversMidFrame :
    live.cfg = Config.irdec ∧ live.connected = true ∧ live.protocol = .za ∧ live.bitsReceived = 0 ∧
    (((frameBits 0 0xA2).drop 1).map bitPair).map (pairClass live.cfg) =
      ((frameBits 0 0xA2).drop 1).map bitClass ∧
    (((frameBits 0 0xA2).drop 8).map bitPair).map (pairClass live.cfg) =
      ((frameBits 0 0xA2).drop 8).map bitClass := by decide

theorem wit_ZeroAddressVariantMisreadsFromNinePairsOn :
    live.cfg = Config.irdec ∧ live.connected = true ∧ live.protocol = .za ∧ live.bitsReceived = 0 ∧
    (0xA2 : Code).getLsbD 7 = true ∧ (0x22 : Code).getLsbD 7 = false ∧
    (∀ k ∈ [9, 15, 16, 17, 31], (((frameBits 0 0xA2).drop k).map bitPair).map (pairClass live.cfg) =
      ((frameBits 0 0xA2).drop k).map bitClass) ∧
    (((frameBits 0 0x22).drop 16).map bitPair).map (pairClass live.cfg) =
      ((frameBits 0 0x22).drop 16).map bitClass := by decide

theorem wit_GeneralVariantMisreadsMidFrame :
    (counting .ga 0).cfg = Config.irdec ∧ (counting .ga 0).connected = true ∧
    (counting .ga 0).protocol = .ga ∧ (counting .ga 0).bitsReceived = 0 ∧
    ∀ k ∈ [1, 8, 9, 31], (((frameBits 0 0xA2).drop k).map bitPair).map (pairClass Config.irdec) =
      ((frameBits 0 0xA2).drop k).map bitClass := by decide

theorem wit_NewCommandDisplacesTheActiveOne :
    (tracking (some 0x03) 1120 (some 0x03) false 1050).activeCommand ≠ some 0x07 ∧
    live.activeCommand ≠ some 0x00 := by decide

theorem wit_RepetitionOnlyRefreshesTheDeadline :
    (tracking (some 0x05) 1120 (some 0x05) false 1050).activeCommand = some 0x05 := by decide

theorem wit_WatcherReleasesPastTheDeadline :
    State.reset.connected = false ∧
    (tracking (some 0x05) 1120 (some 0x05) false 1121).connected = true ∧
    (tracking (some 0x05) 1120 (some 0x05) false 1121).activeCommand = some 0x05 ∧
    live.connected = true ∧ live.activeCommand = none ∧
    (tracking (some 0x05) 1120 (some 0x05) false 1121).repeatDeadline.toNat <
      (tracking (some 0x05) 1120 (some 0x05) false 1121).now.toNat ∧
    (tracking (some 0x05) 1120 (some 0x05) false 1120).now.toNat ≤
      (tracking (some 0x05) 1120 (some 0x05) false 1120).repeatDeadline.toNat := by decide

/-- A button down at 1100, its deadline old. -/
def refreshing : State := tracking (some 0x05) 1120 (some 0x05) false 1100

/-- Each form of the refresh; the check is made at the last moment, 1220, after a millisecond's step. -/
theorem wit_RefreshBeforeACheckPreventsTheRelease :
    (∃ t, exec .trkRepeat refreshing = .next t ∧ t.noReset ∧ (t.after 1).isSome = true) ∧
    (∃ t, exec (.trkCmdsame 0x05) refreshing = .next t) ∧ refreshing.activeCommand = some 0x05 ∧
    (∃ t, exec (.trkCmdnew 0x07) refreshing = .next t) ∧ refreshing.activeCommand ≠ some 0x07 ∧
    (∃ t, exec (.space 8000) refreshing = .next t ∧ t.dres = some .repeatCode) ∧
    (execResult (.space 1700) { refreshing with protocol := .ga, bitsReceived := 23 }).dres =
      some (.command 0x01) ∧
    refreshing.connected = true ∧ refreshing.clockHasRoom refreshing.cfg.watchIdle ∧
    ((execResult .trkRepeat refreshing).after 1).map (fun u => u.now) = some 1101 ∧
    (1220 : Time).toNat ≤ refreshing.now.toNat + refreshing.cfg.repeatTimeout :=
  ⟨⟨_, rfl, ⟨rfl, by intro c hc; simp [refreshing, tracking, live, State.reset] at hc⟩, by decide⟩,
    ⟨_, rfl⟩, by decide, ⟨_, rfl⟩, by decide, ⟨_, rfl, by decide⟩, by decide, by decide,
    by unfold State.clockHasRoom; decide, by decide, by decide⟩

theorem wit_EventsOfARunAlternate : live.noReset := ⟨rfl, by intro c hc; simp [live, State.reset] at hc⟩

theorem wit_TrackerStateIsTheLastEvents :
    (tracking (some 0x05) 0 (some 0x05) false 240).noReset ∧
    ({ tracking (some 0x05) 0 (some 0x05) false 240 with watchDue := 240 } : State).eventsAlong 1 =
      [⟨.released, 0x05⟩] ∧
    (({ tracking (some 0x05) 0 (some 0x05) false 240 with watchDue := 240 } : State).after 1).isSome = true :=
  ⟨⟨rfl, by intro c hc; simp [tracking, live, State.reset] at hc⟩, by decide, by decide⟩

/-- A button just refreshed at 1000, the next check at `due`. -/
def held (due : Time) : State := { tracking (some 0x05) 1120 (some 0x05) true 1000 with watchDue := due }

/-- Both ends of the watcher's sleep: a check due now, and one a whole idle sleep away. -/
theorem wit_SilentButtonIsReleasedInTime :
    (held 1000).cfg = Config.irdec ∧ (held 1000).quiet ∧ (held 1000).connected = true ∧
    (held 1000).WatchArmed ∧ (held 1240).WatchArmed ∧ (held 1000).activeCommand = some 0x05 ∧
    (held 1000).repeatDeadline = (held 1000).now + 120 ∧ (held 1000).clockHasRoom 480 :=
  ⟨rfl, ⟨rfl, rfl, rfl, rfl, rfl⟩, rfl,
    ⟨rfl, rfl, fun _ => by decide, fun _ => by decide⟩,
    ⟨rfl, rfl, fun _ => by decide, fun _ => by decide⟩, rfl, by decide,
    by unfold State.clockHasRoom; decide⟩

theorem wit_SpuriousRepeatIsUnobservable : (tracking none 1120 (some 0x05) false 3000).activeCommand = none := by
  decide

theorem wit_EventReachesTheMatchingHandlersInOrder :
    live.cfg.handlerOrder = .registration ∧
    ({ live with cfg := { Config.irdec with handlerOrder := .reverse } } : State).cfg.handlerOrder =
      .reverse := by decide

/-- A frame whose last command pair is presented, with a wildcard handler for each action and another entry. -/
def watched : State :=
  { counting .ga 23 with
    watchDue := 240
    handlers := [⟨true, 0, .pressed, 1⟩, ⟨false, 0x6B, .pressed, 3⟩, ⟨true, 0, .released, 2⟩]
    cycle := { now := 58, rst := false, pulse := some 0x106A4, host := none } }

theorem wit_WildcardHandlersReceiveEveryEvent :
    watched.inputsOnly ∧ (1 : HandlerId) ≠ 2 ∧
    watched.handlers.filter (fun e => e.handler == 1 || e.handler == 2) =
      [⟨true, 0, .pressed, 1⟩, ⟨true, 0, .released, 2⟩] ∧
    (∃ t, step watched = .next t) ∧ watched.eventsAlong 1 = [⟨.pressed, 0x6B⟩] :=
  ⟨by intro l hl; simp [watched, counting, live, State.reset] at hl, by decide, by decide, ⟨_, rfl⟩,
    by decide⟩

theorem wit_RegistrationIsAppended :
    (∀ n, live.cfg.nHandlers = some n → live.handlers.length < n) ∧
    ({ live with cfg := { Config.irdec with nHandlers := some 1 } } : State).handlers.length < 1 ∧
    1 ≤ ({ live with handlers := [⟨true, 0, .pressed, 1⟩] } : State).handlers.length :=
  ⟨by intro n hn; simp [live, State.reset, Config.irdec] at hn, by decide, by decide⟩

theorem wit_LastReturnsTheReportedCode :
    live.lastReportedCommand = none ∧
    (tracking none 0 (some 0x00) false 0).lastReportedCommand = some 0x00 := by decide

theorem wit_FirstConnectConfigures : State.reset.connected = false := by decide

theorem wit_LaterConnectIsASilentNoOp : live.connected = true := by decide

theorem wit_NopAndReservedChangeNothing : 5 ≤ (5#4).toNat := by decide

/-- A coherent state with a button down. -/
theorem wit_EveryStepKeepsCoherence : (held 1240).Coherent ∧ ∃ t, step (held 1240) = .next t :=
  ⟨{ inputs := by intro l hl; simp [held, tracking, live, State.reset] at hl
     active := by
      intro c hc
      exact ⟨hc, rfl⟩
     unreported := by intro h; simp [held, tracking] at h
     decoderBeforeConnect := by intro h; simp [held, tracking, live] at h
     trackerBeforeConnect := by intro h; simp [held, tracking, live] at h
     configBeforeConnect := by intro h; simp [held, tracking, live] at h
     capacity := by intro n _; exact Nat.zero_le n }, _, rfl⟩

theorem wit_EveryStepKeepsTheWatchArmed :
    (held 1240).WatchArmed ∧ (held 1240).clockHasRoom ((held 1240).cfg.watchIdle + 1) ∧
    ∃ t, step (held 1240) = .next t :=
  ⟨⟨rfl, rfl, fun _ => by decide, fun _ => by decide⟩, by unfold State.clockHasRoom; decide, _, rfl⟩

theorem wit_FirstConnectionStands :
    (held 1240).connected = true ∧ (held 1240).cycle.rst = false ∧ ∃ t, step (held 1240) = .next t :=
  ⟨rfl, rfl, _, rfl⟩

theorem wit_HandlerTableOnlyGrows : watched.cycle.rst = false ∧ ∃ t, step watched = .next t :=
  ⟨rfl, _, rfl⟩

theorem wit_AccumulatorIsUnobservable :
    (counting .ga 16).cfg = Config.irdec ∧ (counting .ga 16).bitsReceived ≤ 16 ∧
    24 ≤ (counting .ga 24).bitsReceived := by decide

theorem wit_SaturatingCounterIsEquivalent :
    (counting .ga 64).cfg = Config.irdec ∧ ∃ t, step (counting .ga 64) = .next t := ⟨rfl, _, rfl⟩

end Sys2Proof.Tests
end

section
/-!
The state after reset (10_state.md R43).
-/

namespace Sys2Proof.Machine

/-- The reset state is a fixed point of the reset line (70_reset_and_hazards.md R280), so what the
`State.resetFields_*` lemmas say of a field after `rst` they also say of it in `State.reset`. -/
theorem State.resetFields_reset : State.reset.resetFields = State.reset := rfl

/-- Settles O2, field by field, from the values that the reset line writes. -/
theorem resetStateHoldsItsValues : Obligations.ResetStateHoldsItsValues := by
  unfold Obligations.ResetStateHoldsItsValues
  rw [← State.resetFields_reset]
  exact ⟨State.resetFields_connected _, State.resetFields_protocol _, State.resetFields_pinSel _,
    State.resetFields_markLatch _, State.resetFields_bitsReceived _,
    State.resetFields_commandAccumulator _, State.resetFields_activeCommand _,
    State.resetFields_repeatDeadline _, State.resetFields_lastReportedCommand _,
    State.resetFields_hasUnconsumedPress _, State.resetFields_handlers _, State.resetFields_watchDue _⟩

end Sys2Proof.Machine
end

section
/-!
The stages of a pulse report, one rule each: the band a duration lies in, the case a data bit takes, what
each case of DISC, SYNC and TRK does where it is selected, and SPACE as their composition
(40_frame_decoder.md R130 to R146).
-/

namespace Sys2Proof.Machine

/-! ## ACC -/

/-- Settles O15: the two branches of MARK. -/
theorem markLatchesTheDuration : Obligations.MarkLatchesTheDuration := by
  unfold Obligations.MarkLatchesTheDuration
  intro dur s
  rw [exec_eq, execResult_mark]
  exact ⟨fun h => by rw [if_pos h], fun h => by rw [h]; rfl⟩

/-! ## DISC: the band of a duration (R135) and the case of each band (R136 to R140) -/

/-- The order of the thresholds, as inequalities. -/
theorem thresholdsOrdered_iff (c : Config) :
    c.thresholdsOrdered = true ↔
      0 < c.tOne ∧ c.tOne < c.tSync ∧ c.tSync < c.tStartLo ∧ c.tStartLo ≤ c.tStartHi := by
  simp [Config.thresholdsOrdered, and_assoc]

section Bands

variable {c : Config} {d : Duration}

theorem classify_eq_zero (hi : d.toNat < c.tOne) : classify c d = .zero :=
  if_pos hi

theorem classify_eq_one (lo : c.tOne ≤ d.toNat) (hi : d.toNat < c.tSync) : classify c d = .one := by
  rw [classify, if_neg (by omega), if_pos hi]

theorem classify_eq_repeatCode (hc : c.thresholdsOrdered = true) (lo : c.tSync ≤ d.toNat)
    (hi : d.toNat < c.tStartLo) : classify c d = .repeatCode := by
  rw [thresholdsOrdered_iff] at hc
  rw [classify, if_neg (by omega), if_neg (by omega), if_pos hi]

theorem classify_eq_start (hc : c.thresholdsOrdered = true) (lo : c.tStartLo ≤ d.toNat)
    (hi : d.toNat < c.tStartHi) : classify c d = .start := by
  rw [thresholdsOrdered_iff] at hc
  rw [classify, if_neg (by omega), if_neg (by omega), if_neg (by omega), if_pos hi]

theorem classify_eq_long (hc : c.thresholdsOrdered = true) (lo : c.tStartHi ≤ d.toNat) :
    classify c d = .long := by
  rw [thresholdsOrdered_iff] at hc
  rw [classify, if_neg (by omega), if_neg (by omega), if_neg (by omega), if_neg (by omega)]

end Bands

section SymbolCases

variable {d : Duration} {s : State}

theorem exec_symZero (h : classify s.cfg d = .zero) :
    exec (.symZero d) s = .next (s.begin.pushBit false) := if_pos h

theorem exec_symOne (h : classify s.cfg d = .one) :
    exec (.symOne d) s = .next (s.begin.pushBit true) := if_pos h

theorem exec_symRepeat (h : classify s.cfg d = .repeatCode) :
    exec (.symRepeat d) s = .next (s.begin.syncPulse .repeatCode) := if_pos h

theorem exec_symStart (h : classify s.cfg d = .start) :
    exec (.symStart d) s = .next (s.begin.syncPulse .incomplete) := if_pos h

theorem exec_symLong (h : classify s.cfg d = .long) :
    exec (.symLong d) s = .next (s.begin.syncPulse .incomplete) := if_pos h

end SymbolCases

/-- Settles O19: each of the two data bands selects its symbol case. -/
theorem dataSymbolsPushTheirBit : Obligations.DataSymbolsPushTheirBit := by
  unfold Obligations.DataSymbolsPushTheirBit
  intro d s _
  exact ⟨fun hi => exec_symZero (classify_eq_zero hi),
    fun lo hi => exec_symOne (classify_eq_one lo hi)⟩

/-- Settles O20: each of the three synchronisation bands selects its symbol case, a `syncPulse`. -/
theorem syncSymbolsClearTheCount : Obligations.SyncSymbolsClearTheCount := by
  unfold Obligations.SyncSymbolsClearTheCount
  intro d s hc
  exact ⟨fun lo hi => exec_symRepeat (classify_eq_repeatCode hc lo hi),
    fun lo hi => exec_symStart (classify_eq_start hc lo hi),
    fun lo => exec_symLong (classify_eq_long hc lo)⟩

/-- The symbol case that a duration decodes to does what `decode_pulse_pair` does (R134, R135). -/
theorem exec_decodeSym (s : State) (d : Duration) :
    exec (decodeSym s.select d) s = .next (s.begin.decodePulsePair d) := by
  have hk : s.select.cfg = s.cfg := rfl
  unfold decodeSym State.decodePulsePair
  rw [hk, State.begin_cfg]
  cases h : classify s.cfg d with
  | zero => exact exec_symZero h
  | one => exact exec_symOne h
  | repeatCode => exact exec_symRepeat h
  | start => exact exec_symStart h
  | long => exact exec_symLong h

/-! ## SYNC: the case of a data bit at this spec's parameters (R141), and what each case does
(R142 to R148) -/

/-- R141 with the bounds of 00_scope.md R6: the counts at which a data bit changes its meaning. -/
theorem bitPhase_irdec (p : Protocol) (n : Nat) (b : Bool) :
    bitPhase Config.irdec p n b =
      if n ≤ 8 then (if p = .za ∧ b = true then .resync else .addr)
      else if n ≤ 16 then .invAddr
      else if n < 24 then .cmd
      else if n = 24 then .cmdLast
      else .invCmd := by
  have hfires : resyncFires Config.irdec p n b = true ↔ p = .za ∧ b = true := by
    cases p <;> simp [resyncFires, Config.irdec]
  simp only [bitPhase, hfires]
  rfl

section Phases

variable {p : Protocol} {n : Nat} {b : Bool}

theorem bitPhase_addr (hi : n ≤ 8) (hb : ¬(p = .za ∧ b = true)) :
    bitPhase Config.irdec p n b = .addr := by
  rw [bitPhase_irdec, if_pos hi, if_neg hb]

theorem bitPhase_resync (hi : n ≤ 8) : bitPhase Config.irdec .za n true = .resync := by
  rw [bitPhase_irdec, if_pos hi, if_pos ⟨rfl, rfl⟩]

theorem bitPhase_invAddr (lo : 9 ≤ n) (hi : n ≤ 16) : bitPhase Config.irdec p n b = .invAddr := by
  rw [bitPhase_irdec, if_neg (by omega), if_pos hi]

theorem bitPhase_cmd (lo : 17 ≤ n) (hi : n ≤ 23) : bitPhase Config.irdec p n b = .cmd := by
  rw [bitPhase_irdec, if_neg (by omega), if_neg (by omega), if_pos (by omega)]

theorem bitPhase_cmdLast (hn : n = 24) : bitPhase Config.irdec p n b = .cmdLast := by
  rw [bitPhase_irdec, if_neg (by omega), if_neg (by omega), if_neg (by omega), if_pos hn]

theorem bitPhase_invCmd (lo : 25 ≤ n) : bitPhase Config.irdec p n b = .invCmd := by
  rw [bitPhase_irdec, if_neg (by omega), if_neg (by omega), if_neg (by omega), if_neg (by omega)]

end Phases

/-- The case a data bit takes in a state with this spec's parameters. -/
theorem State.phase_irdec {s : State} (hcfg : s.cfg = Config.irdec) (b : Bool) :
    s.phase b = bitPhase Config.irdec s.protocol (s.bitsReceived + 1) b := by
  rw [State.phase, hcfg, State.nextCount]

/-- R145: the accumulator after a shift, as a number. -/
theorem shiftIn_toNat (acc : Code) (b : Bool) :
    (shiftIn acc b).toNat = (acc.toNat * 2 + b.toNat) % 256 :=
  BitVec.toNat_ofNat _ 8

section BitCases

variable {b : Bool} {s : State}

theorem exec_bitAddr (h : s.phase b = .addr) : exec (.bitAddr b) s = .next s.begin.countBit :=
  if_pos h

theorem exec_bitResync (h : s.phase true = .resync) : exec .bitResync s = .next s.begin.resyncCount :=
  if_pos h

theorem exec_bitInvaddr (h : s.phase b = .invAddr) : exec (.bitInvaddr b) s = .next s.begin.countBit :=
  if_pos h

theorem exec_bitCmd (h : s.phase b = .cmd) : exec (.bitCmd b) s = .next (s.begin.commandBit b) :=
  if_pos h

theorem exec_bitCmdlast (h : s.phase b = .cmdLast) :
    exec (.bitCmdlast b) s = .next (s.begin.lastCommandBit b) :=
  if_pos h

theorem exec_bitInvcmd (h : s.phase b = .invCmd) : exec (.bitInvcmd b) s = .next s.begin.countBit :=
  if_pos h

end BitCases

/-- Settles O22: each of the three ranges of the count selects a case that is a `countBit`. -/
theorem ignoredBitsAreOnlyCounted : Obligations.IgnoredBitsAreOnlyCounted := by
  unfold Obligations.IgnoredBitsAreOnlyCounted
  intro b s hcfg
  have hphase := State.phase_irdec hcfg b
  exact ⟨fun hi hb => exec_bitAddr (hphase.trans (bitPhase_addr hi hb)),
    fun lo hi => exec_bitInvaddr (hphase.trans (bitPhase_invAddr lo hi)),
    fun lo => exec_bitInvcmd (hphase.trans (bitPhase_invCmd lo))⟩

/-- Settles O23: a 1 in the address region of ZA selects the heuristic, and `RESYNC_TO` is 9. -/
theorem resyncForcesTheCountToNine : Obligations.ResyncForcesTheCountToNine := by
  unfold Obligations.ResyncForcesTheCountToNine
  intro s hcfg hza hi
  have hphase : s.phase true = .resync := by
    rw [State.phase_irdec hcfg, hza, bitPhase_resync hi]
  have hnine : s.begin.cfg.resyncTo = 9 := by rw [State.begin_cfg, hcfg]; rfl
  rw [exec_bitResync hphase, State.resyncCount, hnine]

/-- Settles O25: counts 17 to 23 select the case that shifts the bit in. -/
theorem commandBitIsShiftedIn : Obligations.CommandBitIsShiftedIn := by
  unfold Obligations.CommandBitIsShiftedIn
  intro b s hcfg lo hi
  exact ⟨shiftIn s.commandAccumulator b, shiftIn_toNat _ b,
    exec_bitCmd ((State.phase_irdec hcfg b).trans (bitPhase_cmd lo hi))⟩

/-- Settles O26: count 24 selects the case that shifts the bit in and returns the accumulator. -/
theorem lastCommandBitReturnsTheCommand : Obligations.LastCommandBitReturnsTheCommand := by
  unfold Obligations.LastCommandBitReturnsTheCommand
  intro b s hcfg hn
  have hcount : s.begin.nextCount = 24 := hn
  refine ⟨shiftIn s.commandAccumulator b, shiftIn_toNat _ b, ?_⟩
  rw [exec_bitCmdlast ((State.phase_irdec hcfg b).trans (bitPhase_cmdLast hn)),
    State.lastCommandBit, hcount]
  rfl

/-! ## TRK: the case that a DecodeResult selects (41_command_tracker.md R172 to R176) -/

/-- What the tracker does on the result `r`, wherever the result stands. -/
def State.trackResult (s : State) : DecodeResult → State
  | .command c => s.trackCommand c
  | .repeatCode => s.refreshDeadline
  | .incomplete => s

/-- `track` takes its result from the decoder's bus (R170). -/
theorem State.track_of_dres {s : State} {r : DecodeResult} (h : s.dres = some r) :
    s.track = s.trackResult r := by
  rw [State.track, h]
  cases r <;> rfl

/-- The decoder's bus, holding `x` and nothing else changed. -/
def State.setDres (s : State) (x : Option DecodeResult) : State := { s with dres := x }

theorem State.refreshDeadline_setDres (s : State) (x : Option DecodeResult) :
    (s.setDres x).refreshDeadline = s.refreshDeadline.setDres x := rfl

theorem State.emitRelease_setDres (s : State) (x : Option DecodeResult) :
    (s.setDres x).emitRelease = s.emitRelease.setDres x := by
  have hactive : (s.setDres x).activeCommand = s.activeCommand := rfl
  unfold State.emitRelease
  rw [hactive]
  split <;> rfl

theorem State.newCommand_setDres (s : State) (x : Option DecodeResult) (c : Code) :
    (s.setDres x).newCommand c = (s.newCommand c).setDres x := by
  simp only [State.newCommand, State.refreshDeadline_setDres, State.emitRelease_setDres]
  rfl

/-- The tracker does not look at the decoder's bus once it has its result. -/
theorem State.trackResult_setDres (s : State) (x : Option DecodeResult) (r : DecodeResult) :
    (s.setDres x).trackResult r = (s.trackResult r).setDres x := by
  cases r with
  | incomplete => rfl
  | repeatCode => exact s.refreshDeadline_setDres x
  | command c =>
    have hactive : (s.setDres x).activeCommand = s.activeCommand := rfl
    simp only [State.trackResult, State.trackCommand, hactive, State.refreshDeadline_setDres,
      State.newCommand_setDres]
    split <;> rfl

/-- The tracker writes none of the fields that the dispatch reads beside its events, nor the latch. -/
theorem State.trackResult_frame (s : State) (r : DecodeResult) :
    (s.trackResult r).cfg = s.cfg ∧ (s.trackResult r).handlers = s.handlers ∧
      (s.trackResult r).markLatch = s.markLatch := by
  cases r <;> simp [State.trackResult]

/-- The tracker case that the word of a result decodes to does what `track` does on that result. -/
theorem exec_decodeDres (s : State) (r : DecodeResult) :
    ∃ j, decode s.select (.dres r.word) = some j ∧ exec j s = .next (s.begin.trackResult r) := by
  cases r with
  | incomplete => exact ⟨_, decodeDres_incomplete s.select 0, rfl⟩
  | repeatCode => exact ⟨_, decodeDres_repeat s.select 0, rfl⟩
  | command c =>
    refine ⟨_, decodeDres_command s.select c, ?_⟩
    have hk : s.select.active = s.activeCommand := rfl
    rw [hk, State.trackResult, State.trackCommand, State.begin_activeCommand]
    by_cases ha : s.activeCommand = some c
    · rw [if_pos ha, if_pos ha]; exact if_pos ha
    · rw [if_neg ha, if_neg ha]; exact if_neg ha

/-- A new command while another is active releases the one and presses the other (R173). -/
theorem State.trackResult_events_displacing {s : State} {a c : Code} (ha : s.activeCommand = some a)
    (hac : a ≠ c) :
    (s.trackResult (.command c)).events = s.events ++ [⟨.released, a⟩, ⟨.pressed, c⟩] := by
  have hnew : s.activeCommand ≠ some c := by simpa [ha] using hac
  rw [State.trackResult, State.trackCommand, if_neg hnew, State.newCommand_events, ha]
  simp

/-! ## MUX: the records of a list of events (42_event_dispatch.md R201 to R203) -/

theorem dispatchAll_registration (h : List Entry) (es : List Event) :
    dispatchAll .registration h es = es.flatMap (fun e =>
      (h.filter (fun x => x.action == e.action && (x.any || x.code == e.code))).map
        (fun x => ⟨x.handler, e.action, e.code⟩)) := rfl

theorem dispatchAll_reverse (h : List Entry) (es : List Event) :
    dispatchAll .reverse h es = es.flatMap (fun e =>
      ((h.filter (fun x => x.action == e.action && (x.any || x.code == e.code))).map
        (fun x => ⟨x.handler, e.action, e.code⟩)).reverse) := by
  simp only [dispatchAll, dispatchOne, matching, Entry.matchesEvent, List.map_reverse]

/-! ## SPACE -/

/-- Before the tracker runs in a SPACE step, the decoder's result is all there is on the buses. -/
theorem State.decodePulsePair_begin (s : State) (d : Duration) :
    (s.begin.decodePulsePair d).begin.setDres (s.begin.decodePulsePair d).dres =
      s.begin.decodePulsePair d := by
  apply State.ext <;> simp [State.setDres]

/-- The SPACE step after its symbol case: the tracker case `v`, with the result left on its bus, and then
the dispatch of the tracker's events. -/
theorem exec_space_of_dres {s u v : State} {dur : Duration} {r : DecodeResult}
    (hconn : s.connected = true) (hu : u = s.begin.decodePulsePair (pairDuration s.markLatch dur))
    (hr : u.dres = some r) (hv : v = u.begin.trackResult r) :
    exec (.space dur) s = .next (v.setDres (some r)).dispatch := by
  have hbus : u.begin.setDres (some r) = u := by
    rw [← hr, hu, State.decodePulsePair_begin]
  rw [exec_eq, execResult_space, if_pos hconn, ← hu, State.track_of_dres hr, hv,
    ← State.trackResult_setDres, hbus]

/-- Settles O17: the stages of a SPACE step are the cases that the sum and its result decode to. -/
theorem spaceIsItsStagesInOrder : Obligations.SpaceIsItsStagesInOrder := by
  unfold Obligations.SpaceIsItsStagesInOrder
  intro dur s
  refine ⟨fun hconn => ?_, fun hconn => by rw [exec_eq, execResult_space, hconn]; rfl⟩
  obtain ⟨u, hu⟩ : ∃ u, u = s.begin.decodePulsePair (pairDuration s.markLatch dur) := ⟨_, rfl⟩
  obtain ⟨r, hr⟩ : ∃ r, u.dres = some r :=
    Option.isSome_iff_exists.mp (hu ▸ State.decodePulsePair_dres_isSome _ _)
  obtain ⟨j, hdecode, hexec⟩ := exec_decodeDres u r
  obtain ⟨v, hv⟩ : ∃ v, v = u.begin.trackResult r := ⟨_, rfl⟩
  obtain ⟨hcfg, hhandlers, hlatch⟩ : v.cfg = s.cfg ∧ v.handlers = s.handlers ∧
      v.markLatch = s.markLatch := by
    have hframe := State.trackResult_frame u.begin r
    rw [← hv] at hframe
    simpa [hu] using hframe
  refine ⟨pairDuration s.markLatch dur, _, u, r, j, v,
    dispatchAll v.cfg.handlerOrder v.handlers v.events,
    pairDuration_toNat _ _, rfl, hu ▸ exec_decodeSym _ _, hr, hdecode, hv ▸ hexec, hlatch,
    exec_space_of_dres hconn hu hr hv, ?registration, ?reverse, ?displacing⟩
  case registration =>
    intro ho
    rw [hcfg, ho, hhandlers, dispatchAll_registration]
  case reverse =>
    intro ho
    rw [hcfg, ho, hhandlers, dispatchAll_reverse]
  case displacing =>
    intro a c ha hrc hac
    have hactive : u.begin.activeCommand = some a := by simpa [hu] using ha
    rw [hv, hrc, State.trackResult_events_displacing hactive hac]
    rfl

end Sys2Proof.Machine
end

section
/-!
Frames: what the Frame Decoder makes of a sequence of pulse pairs (40_frame_decoder.md R147, R154). A state
is followed by what the decoder reads and writes of it; a run of pairs that all take one case of `push_bit`
is one induction, and a frame is put together from such runs.
-/

namespace Sys2Proof.Machine

/-! ## One pair -/

/-- The state after the two reports of a pulse pair. -/
def State.afterPair (s : State) (q : Pair) : State := execResult (.space q.2) (execResult (.mark q.1) s)

/-- A mark gives no result, so the results of a pair are those of its space. -/
theorem resultsAlong_pairReports_cons (q : Pair) (ps : List Pair) (s : State) :
    resultsAlong (pairReports (q :: ps)) s =
      (s.afterPair q).dres.toList ++ resultsAlong (pairReports ps) (s.afterPair q) := by
  have hmark : (execResult (.mark q.1) s).dres = none := by
    rw [execResult_mark]
    split <;> rfl
  change resultsAlong (.mark q.1 :: .space q.2 :: pairReports ps) s = _
  simp only [resultsAlong, exec_eq, hmark]
  rfl

theorem afterAll_pairReports_cons (q : Pair) (ps : List Pair) (s : State) :
    afterAll (pairReports (q :: ps)) s = afterAll (pairReports ps) (s.afterPair q) := by
  change afterAll (.mark q.1 :: .space q.2 :: pairReports ps) s = _
  simp only [afterAll, exec_eq]
  rfl

/-- The state after a MARK of a connected receiver (R130). -/
def State.latched (s : State) (d : Duration) : State := { s.begin with markLatch := d }

/-- A pair is its mark latched, and then the stages of its space (R131). -/
theorem State.afterPair_eq {s : State} (hconn : s.connected = true) (q : Pair) :
    s.afterPair q = ((s.latched q.1).decodePulsePair (pairDuration q.1 q.2)).track.dispatch := by
  rw [State.afterPair, execResult_mark, if_pos hconn, execResult_space]
  exact if_pos hconn

/-- What the Frame Decoder reads of a connected state with this spec's parameters: the variant, the count
and the accumulator. -/
structure State.Listening (s : State) (p : Protocol) (n : Nat) (acc : Code) : Prop where
  cfg : s.cfg = Config.irdec
  connected : s.connected = true
  protocol : s.protocol = p
  count : s.bitsReceived = n
  accumulator : s.commandAccumulator = acc

section OnePair

variable {s : State} {p : Protocol} {n : Nat} {acc : Code} {q : Pair} {b : Bool}

/-- Listening does not depend on the latch or on the results of the step before. -/
theorem State.Listening.latched (h : s.Listening p n acc) (d : Duration) :
    (s.latched d).Listening p n acc :=
  ⟨h.cfg, h.connected, h.protocol, h.count, h.accumulator⟩

/-- What a pair leaves for the next one, and its result, are the decoder's: neither the tracker nor the
dispatch writes them. -/
theorem State.Listening.afterPair {u : State} (h : s.Listening p n acc)
    (hu : (s.latched q.1).decodePulsePair (pairDuration q.1 q.2) = u) :
    (s.afterPair q).Listening p u.bitsReceived u.commandAccumulator ∧ (s.afterPair q).dres = u.dres := by
  have hl := h.latched q.1
  have heq : s.afterPair q = u.track.dispatch := by rw [State.afterPair_eq h.connected, hu]
  rw [heq]
  refine ⟨⟨?_, ?_, ?_, by simp, by simp⟩, by simp⟩
  · rw [← hl.cfg, ← hu]; simp
  · rw [← hl.connected, ← hu]; simp
  · rw [← hl.protocol, ← hu]; simp

/-- A pair of a data class pushes the bit of its class (R135 to R137). -/
theorem State.decodePulsePair_of_bitClass {d : Duration} (hd : classify s.cfg d = bitClass b) :
    s.decodePulsePair d = s.pushBit b := by
  rw [State.decodePulsePair, hd]
  cases b <;> rfl

/-- The pair of a data bit, by the state the bit is pushed into. -/
theorem State.Listening.afterPair_bit {u : State} (h : s.Listening p n acc)
    (hq : pairClass Config.irdec q = bitClass b)
    (hu : (s.latched q.1).pushBit b = u) :
    (s.afterPair q).Listening p u.bitsReceived u.commandAccumulator ∧ (s.afterPair q).dres = u.dres := by
  apply h.afterPair
  rw [← hu]
  apply State.decodePulsePair_of_bitClass
  rw [(h.latched q.1).cfg]
  exact hq

/-- The case a data bit takes while listening. -/
theorem State.Listening.phase (h : s.Listening p n acc) (b : Bool) :
    s.phase b = bitPhase Config.irdec p (n + 1) b := by
  rw [State.phase_irdec h.cfg, h.protocol, h.count]

/-- The cases of `push_bit` in which a bit is only counted (R142, R144, R148). -/
def isIgnored : BitPhase → Bool
  | .addr | .invAddr | .invCmd => true
  | .resync | .cmd | .cmdLast => false

theorem State.pushBit_of_isIgnored (h : isIgnored (s.phase b) = true) : s.pushBit b = s.countBit := by
  unfold State.pushBit
  cases hp : s.phase b <;> simp_all [isIgnored]

theorem State.Listening.afterPair_ignored (h : s.Listening p n acc)
    (hq : pairClass Config.irdec q = bitClass b)
    (hb : isIgnored (bitPhase Config.irdec p (n + 1) b) = true) :
    (s.afterPair q).Listening p (n + 1) acc ∧ (s.afterPair q).dres = some .incomplete := by
  have hl := h.latched q.1
  have hu := State.pushBit_of_isIgnored (hl.phase b ▸ hb)
  have hnext := h.afterPair_bit hq hu
  rwa [State.countBit_bitsReceived, State.nextCount, hl.count, State.countBit_commandAccumulator,
    hl.accumulator] at hnext

theorem State.Listening.afterPair_command (h : s.Listening p n acc)
    (hq : pairClass Config.irdec q = bitClass b) (lo : 17 ≤ n + 1) (hi : n + 1 ≤ 23) :
    (s.afterPair q).Listening p (n + 1) (shiftIn acc b) ∧
      (s.afterPair q).dres = some .incomplete := by
  have hl := h.latched q.1
  have hu : (s.latched q.1).pushBit b = (s.latched q.1).commandBit b := by
    rw [State.pushBit, hl.phase, bitPhase_cmd lo hi]
  have hnext := h.afterPair_bit hq hu
  rwa [State.commandBit_bitsReceived, State.nextCount, hl.count, State.commandBit_commandAccumulator,
    hl.accumulator] at hnext

theorem State.Listening.afterPair_commandLast (h : s.Listening p 23 acc)
    (hq : pairClass Config.irdec q = bitClass b) :
    (s.afterPair q).Listening p 24 (shiftIn acc b) ∧
      (s.afterPair q).dres = some (.command (shiftIn acc b)) := by
  have hl := h.latched q.1
  have hu : (s.latched q.1).pushBit b = (s.latched q.1).lastCommandBit b := by
    rw [State.pushBit, hl.phase, bitPhase_cmdLast rfl]
  have hnext := h.afterPair_bit hq hu
  rwa [State.lastCommandBit_bitsReceived, State.nextCount, hl.count,
    State.lastCommandBit_commandAccumulator, State.lastCommandBit_dres, hl.accumulator] at hnext

theorem State.Listening.afterPair_start (h : s.Listening p n acc)
    (hq : pairClass Config.irdec q = .start) :
    (s.afterPair q).Listening p 0 acc ∧ (s.afterPair q).dres = some .incomplete := by
  have hl := h.latched q.1
  have hu : (s.latched q.1).decodePulsePair (pairDuration q.1 q.2) =
      (s.latched q.1).syncPulse .incomplete := by
    have hd : classify Config.irdec (pairDuration q.1 q.2) = .start := hq
    rw [State.decodePulsePair, hl.cfg, hd]
  have hnext := h.afterPair hu
  rwa [State.syncPulse_bitsReceived, State.syncPulse_commandAccumulator, hl.accumulator] at hnext

end OnePair

/-! ## Runs of pairs -/

/-- From `s` the pairs `ps` give the results `rs` and end in `t`. -/
def State.Hears (s : State) (ps : List Pair) (rs : List DecodeResult) (t : State) : Prop :=
  resultsAlong (pairReports ps) s = rs ∧ afterAll (pairReports ps) s = some t

theorem State.Hears.nil (s : State) : s.Hears [] [] s := ⟨rfl, rfl⟩

theorem State.Hears.cons {s t : State} {q : Pair} {ps : List Pair} {r : DecodeResult}
    {rs : List DecodeResult} (hr : (s.afterPair q).dres = some r)
    (h : (s.afterPair q).Hears ps rs t) : s.Hears (q :: ps) (r :: rs) t := by
  obtain ⟨hrs, ht⟩ := h
  refine ⟨?_, ?_⟩
  · rw [resultsAlong_pairReports_cons, hr, hrs]; rfl
  · rw [afterAll_pairReports_cons, ht]

theorem State.Hears.append {s t u : State} {ps ps' : List Pair} {rs rs' : List DecodeResult}
    (h : s.Hears ps rs t) (h' : t.Hears ps' rs' u) : s.Hears (ps ++ ps') (rs ++ rs') u := by
  obtain ⟨rfl, ht⟩ := h
  obtain ⟨hrs', hu⟩ := h'
  induction ps generalizing s with
  | nil =>
    obtain rfl : s = t := Option.some.inj ht
    exact ⟨hrs', hu⟩
  | cons q ps ih =>
    rw [afterAll_pairReports_cons] at ht
    obtain ⟨hrs, hend⟩ := ih ht
    refine ⟨?_, ?_⟩
    · rw [List.cons_append, resultsAlong_pairReports_cons, hrs, resultsAlong_pairReports_cons,
        List.append_assoc]
    · rw [List.cons_append, afterAll_pairReports_cons, hend]

/-- The pairs carry the data bits, one each. -/
def Carries (ps : List Pair) (bs : List Bool) : Prop :=
  ps.map (pairClass Config.irdec) = bs.map bitClass

theorem Carries.nil_inv {ps : List Pair} (h : Carries ps []) : ps = [] :=
  List.map_eq_nil_iff.mp h

theorem Carries.cons_inv {ps : List Pair} {b : Bool} {bs : List Bool} (h : Carries ps (b :: bs)) :
    ∃ q qs, ps = q :: qs ∧ pairClass Config.irdec q = bitClass b ∧ Carries qs bs :=
  List.map_eq_cons_iff.mp h

theorem Carries.append_inv {ps : List Pair} {bs bs' : List Bool} (h : Carries ps (bs ++ bs')) :
    ∃ qs qs', ps = qs ++ qs' ∧ Carries qs bs ∧ Carries qs' bs' := by
  unfold Carries at h
  rw [List.map_append] at h
  exact List.map_eq_append_iff.mp h

section Runs

variable {p : Protocol} {bs : List Bool}

/-- Bits that are ignored at every count of the run leave nothing but the count. -/
theorem State.Listening.hears_ignored {s : State} {n : Nat} {acc : Code} {ps : List Pair}
    (h : s.Listening p n acc) (hps : Carries ps bs)
    (hb : ∀ b ∈ bs, ∀ k, n < k → k ≤ n + bs.length → isIgnored (bitPhase Config.irdec p k b) = true) :
    ∃ t, s.Hears ps (List.replicate bs.length .incomplete) t ∧ t.Listening p (n + bs.length) acc := by
  induction bs generalizing s n ps with
  | nil => exact hps.nil_inv ▸ ⟨s, .nil s, h⟩
  | cons b bs ih =>
    obtain ⟨q, qs, rfl, hq, hqs⟩ := hps.cons_inv
    have hfirst : isIgnored (bitPhase Config.irdec p (n + 1) b) = true :=
      hb b (by simp) (n + 1) (by omega) (by simp)
    obtain ⟨hnext, hr⟩ := h.afterPair_ignored hq hfirst
    obtain ⟨t, hrest, ht⟩ := ih hnext hqs (fun c hc k lo hi =>
      hb c (by simp [hc]) k (by omega) (by simp only [List.length_cons]; omega))
    refine ⟨t, .cons hr hrest, ?_⟩
    rwa [List.length_cons, Nat.add_comm bs.length 1, ← Nat.add_assoc]

/-- Command bits before the last are shifted into the accumulator, first one first (R145). -/
theorem State.Listening.hears_command {s : State} {n : Nat} {acc : Code} {ps : List Pair}
    (h : s.Listening p n acc) (hps : Carries ps bs) (lo : 16 ≤ n) (hi : n + bs.length ≤ 23) :
    ∃ t, s.Hears ps (List.replicate bs.length .incomplete) t ∧
      t.Listening p (n + bs.length) (bs.foldl shiftIn acc) := by
  induction bs generalizing s n acc ps with
  | nil => exact hps.nil_inv ▸ ⟨s, .nil s, h⟩
  | cons b bs ih =>
    rw [List.length_cons] at hi
    obtain ⟨q, qs, rfl, hq, hqs⟩ := hps.cons_inv
    obtain ⟨hnext, hr⟩ := h.afterPair_command hq (by omega) (by omega)
    obtain ⟨t, hrest, ht⟩ := ih hnext hqs (by omega) (by omega)
    refine ⟨t, .cons hr hrest, ?_⟩
    rwa [List.length_cons, Nat.add_comm bs.length 1, ← Nat.add_assoc]

end Runs

/-! ## The command byte (R147) -/

/-- The seven bits of a byte that come before its bit 0, most significant first. -/
def upperBits (c : Code) : List Bool := (byteBits c).take 7

theorem byteBits_eq (c : Code) : byteBits c = upperBits c ++ [c.getLsbD 0] := rfl

/-- Eight shifts replace the accumulator by the byte, whatever it held (R147, R150). -/
theorem foldl_shiftIn_byteBits (acc c : Code) : (byteBits c).foldl shiftIn acc = c := by
  apply BitVec.eq_of_getLsbD_eq
  intro i hi
  interval_cases i <;> simp [byteBits, shiftIn_getLsbD, -BitVec.getLsbD_eq_getElem]

theorem State.Listening.hears_commandByte {s : State} {p : Protocol} {acc c : Code} {ps : List Pair}
    (h : s.Listening p 16 acc) (hps : Carries ps (byteBits c)) :
    ∃ t, s.Hears ps (List.replicate 7 .incomplete ++ [.command c]) t ∧ t.Listening p 24 c := by
  obtain ⟨qs, qs', rfl, hqs, hqs'⟩ := (byteBits_eq c ▸ hps).append_inv
  obtain ⟨q, qs'', rfl, hq, hnil⟩ := hqs'.cons_inv
  obtain rfl := hnil.nil_inv
  have hcode : shiftIn ((upperBits c).foldl shiftIn acc) (c.getLsbD 0) = c := by
    have h := foldl_shiftIn_byteBits acc c
    rwa [byteBits_eq, List.foldl_append] at h
  obtain ⟨t, hseven, ht⟩ := h.hears_command hqs le_rfl le_rfl
  obtain ⟨hend, hr⟩ := State.Listening.afterPair_commandLast ht hq
  rw [hcode] at hend hr
  exact ⟨t.afterPair q, hseven.append (.cons hr (.nil _)), hend⟩

/-- Settles O29: the results of a command byte, whatever the accumulator holds. -/
theorem eightCommandPairsGiveTheirCode : Obligations.EightCommandPairsGiveTheirCode := by
  unfold Obligations.EightCommandPairsGiveTheirCode
  intro s c ps hcfg hconn hcount hps
  have hl : s.Listening s.protocol 16 s.commandAccumulator := ⟨hcfg, hconn, rfl, hcount, rfl⟩
  obtain ⟨t, ⟨hresults, _⟩, _⟩ := hl.hears_commandByte (hcfg ▸ hps)
  exact hresults

/-! ## The frame (R154) -/

/-- The address byte of a frame is ignored in GA, and in ZA where it is 0: it then holds no 1 to fire the
heuristic (R142, R143). -/
theorem isIgnored_address {p : Protocol} {a : Code} (ha : p = .ga ∨ a = 0) {b : Bool}
    (hb : b ∈ byteBits a) {k : Nat} (hk : k ≤ 8) :
    isIgnored (bitPhase Config.irdec p k b) = true := by
  have hquiet : ¬(p = .za ∧ b = true) := by
    rintro ⟨rfl, rfl⟩
    obtain hga | rfl := ha
    · cases hga
    · simp [byteBits] at hb
  rw [bitPhase_addr hk hquiet]
  rfl

/-- Settles O30: the start clears the count, the address bytes are ignored, the command byte gives its
command, and its inverse is ignored. -/
theorem wellFormedFrameGivesItsCommand : Obligations.WellFormedFrameGivesItsCommand := by
  unfold Obligations.WellFormedFrameGivesItsCommand
  intro s a c start ps hcfg hconn haddr hstart hps
  have hl : s.Listening s.protocol s.bitsReceived s.commandAccumulator := ⟨hcfg, hconn, rfl, rfl, rfl⟩
  rw [hcfg] at hstart hps
  obtain ⟨qs, invCmdPairs, rfl, hqs, hinvCmd⟩ := Carries.append_inv hps
  obtain ⟨qs, cmdPairs, rfl, hqs, hcmd⟩ := hqs.append_inv
  obtain ⟨addrPairs, invAddrPairs, rfl, haddrPairs, hinvAddr⟩ := hqs.append_inv
  obtain ⟨hl0, hr0⟩ := hl.afterPair_start hstart
  obtain ⟨s8, hears8, hl8⟩ := hl0.hears_ignored haddrPairs
    (fun b hb k _ hk => isIgnored_address haddr hb hk)
  obtain ⟨s16, hears16, hl16⟩ := hl8.hears_ignored hinvAddr
    (fun b _ k lo hi => by rw [bitPhase_invAddr lo hi]; rfl)
  obtain ⟨s24, hears24, hl24⟩ := State.Listening.hears_commandByte hl16 hcmd
  obtain ⟨s32, hears32, hl32⟩ := hl24.hears_ignored hinvCmd
    (fun b _ k lo _ => by rw [bitPhase_invCmd lo]; rfl)
  obtain ⟨hresults, hend⟩ :=
    State.Hears.cons hr0 (((hears8.append hears16).append hears24).append hears32)
  exact ⟨hresults, s32, hend, hl32.count⟩

end Sys2Proof.Machine
end

section
/-!
The Command Tracker along a run: what one step does to `active_command`, `last_reported_command` and the
event list, said once, and what follows for a run between two resets (41_command_tracker.md R173 to R178,
R185, R186).
-/

namespace Sys2Proof.Machine

/-! ## TRK.INCOMPLETE -/

/-- Settles O36: the meaning of TRK.INCOMPLETE is the start of a step and nothing more. -/
theorem incompleteChangesNothing : Obligations.IncompleteChangesNothing := by
  unfold Obligations.IncompleteChangesNothing
  intro s
  rfl

/-! ## One step -/

/-- The moves of the Command Tracker: from the active and the last reported command `a` and `l`, one step
goes to `a'` and `l'` and puts out the events. -/
inductive TrackerMove (a l : Option Code) : (a' l' : Option Code) → List Event → Prop
  /-- No event: a refresh of the deadline, or nothing (R174 to R176). -/
  | keep : TrackerMove a l a l []
  /-- A check past the deadline (R178). -/
  | release (c : Code) (active : a = some c) : TrackerMove a l none l [⟨.released, c⟩]
  /-- A new command, which displaces the active one if there is one (R173). -/
  | press (c : Code) (new : a ≠ some c) :
      TrackerMove a l (some c) (some c) (a.toList.map (fun b => ⟨.released, b⟩) ++ [⟨.pressed, c⟩])

/-- The move that takes the tracker from one state to another. -/
def State.Moves (s t : State) : Prop :=
  TrackerMove s.activeCommand s.lastReportedCommand t.activeCommand t.lastReportedCommand t.events

theorem State.Moves.of_kept {s t : State} (ha : t.activeCommand = s.activeCommand)
    (hl : t.lastReportedCommand = s.lastReportedCommand) (he : t.events = []) : s.Moves t := by
  rw [State.Moves, ha, hl, he]
  exact .keep

/-- A move depends on its first state only through the two command fields. -/
theorem State.Moves.congr_left {s u t : State} (h : u.Moves t)
    (ha : u.activeCommand = s.activeCommand)
    (hl : u.lastReportedCommand = s.lastReportedCommand) : s.Moves t := by
  rwa [State.Moves, ha, hl] at h

theorem State.moves_newCommand {s : State} {c : Code} (he : s.events = [])
    (hc : s.activeCommand ≠ some c) : s.Moves (s.newCommand c) := by
  rw [State.Moves, State.newCommand_events, he]
  exact .press c hc

theorem State.moves_track {s : State} (he : s.events = []) : s.Moves s.track := by
  obtain ⟨c, -, hc, h⟩ | ⟨_, -, -, h⟩ | ⟨-, h⟩ | ⟨-, h⟩ := s.track_cases
  · exact h ▸ State.moves_newCommand he hc
  · exact h ▸ .of_kept rfl rfl he
  · exact h ▸ .of_kept rfl rfl he
  · exact h.symm ▸ .of_kept rfl rfl he

theorem State.moves_releaseIfTimedOut {s : State} (he : s.events = []) :
    s.Moves s.releaseIfTimedOut := by
  obtain ⟨a, ha, -, h⟩ | ⟨-, h⟩ := s.releaseIfTimedOut_cases
  · rw [h, State.Moves, he]
    exact .release a ha
  · exact h.symm ▸ .of_kept rfl rfl he

/-- Every operation is a move of the tracker: the stages and the inputs that run neither `track` nor a
check keep its fields and put out no event. -/
theorem execResult_moves (i : Instr) (s : State) : s.Moves (execResult i s) := by
  cases hi : isStageCase i with
  | true =>
    obtain h | ⟨b, h⟩ | ⟨r, -, h⟩ | ⟨c, hc, h⟩ | h | ⟨a, c, h⟩ := execResult_stage i s hi <;> rw [h]
    -- TRK.CMDNEW
    case inr.inr.inr.inl => exact State.moves_newCommand (s := s.begin) rfl hc
    all_goals exact .of_kept (by simp) (by simp) (by simp)
  | false =>
    obtain h | ⟨_, -, h⟩ | ⟨d, -, h⟩ | ⟨-, h⟩ | ⟨_, _, -, h⟩ | ⟨_, h⟩ | ⟨_, -, h⟩ | h :=
      execResult_input i s hi <;> rw [h]
    -- SPACE
    case inr.inr.inl =>
      have htrack : (s.begin.decodePulsePair d).Moves (s.begin.decodePulsePair d).track :=
        State.moves_track (by simp)
      exact htrack.congr_left (by simp) (by simp)
    -- WCHK
    case inr.inr.inr.inl => exact State.moves_releaseIfTimedOut (s := s.begin) rfl
    all_goals exact .of_kept (by simp) (by simp) (by simp)

/-- Taking an input leaves the tracker's fields alone, and raises no reset line. -/
theorem fetch_word_frame {s u : State} {w : BusWord} (h : s.fetch = .word w u) :
    u.activeCommand = s.activeCommand ∧ u.lastReportedCommand = s.lastReportedCommand ∧
      u.cycle.rst = s.cycle.rst ∧ u.cycles = s.cycles := by
  obtain ⟨_, _, -, -, rfl⟩ | ⟨-, _, -, -, rfl⟩ | ⟨-, -, -, -, rfl⟩ | ⟨-, -, -, _, -, -, rfl⟩ :=
    fetch_word_cases s u w h <;> simp

/-- Every step without a reset is a move of the tracker. -/
theorem step_moves {s t : State} (hrst : s.cycle.rst = false) (h : step s = .next t) : s.Moves t := by
  obtain ⟨hhigh, -⟩ | ⟨-, w, u, i, hfetch, -, rfl⟩ | ⟨-, -, -, -, -, rfl⟩ := step_cases s t h
  · rw [hrst] at hhigh; cases hhigh
  · obtain ⟨ha, hl, -, -⟩ := fetch_word_frame hfetch
    exact (execResult_moves i u).congr_left ha hl
  · exact .of_kept (by simp) (by simp) (by simp)

theorem State.noReset.nextCycle {s : State} (h : s.noReset) : s.nextCycle.noReset := by
  obtain ⟨-, hcycles⟩ := h
  obtain ⟨htick, -⟩ | ⟨c, rest, hs, -, hnext⟩ := s.nextCycle_cases
  · rw [htick]
    exact ⟨rfl, hcycles⟩
  · rw [hs, List.forall_mem_cons] at hcycles
    rw [hnext]
    exact hcycles

/-- No reset is presented, and none comes: every step keeps it. -/
theorem State.noReset.step {s t : State} (hs : s.noReset) (h : step s = .next t) : t.noReset := by
  obtain ⟨hhigh, -⟩ | ⟨-, w, u, i, hfetch, -, rfl⟩ | ⟨-, -, -, -, -, rfl⟩ := step_cases s t h
  · rw [hs.1] at hhigh; cases hhigh
  · obtain ⟨-, -, hrst, hcycles⟩ := fetch_word_frame hfetch
    obtain ⟨-, hcycle, hcycles', -⟩ := execResult_environment i u
    rwa [State.noReset, hcycle, hcycles', hrst, hcycles]
  · exact hs.nextCycle

/-! ## A run -/

/-- The first step of a run that completes. -/
theorem State.after_succ {k : Nat} {s t : State} (h : s.after (k + 1) = some t) :
    ∃ u, step s = .next u ∧ u.after k = some t := by
  rw [State.after] at h
  cases hstep : step s with
  | next u => rw [hstep] at h; exact ⟨u, rfl, h⟩
  | fault f => cases f
  | refused r => rw [hstep] at h; cases h

theorem State.eventsAlong_succ {s u : State} (h : step s = .next u) (k : Nat) :
    s.eventsAlong (k + 1) = u.events ++ u.eventsAlong k := by
  rw [State.eventsAlong, h]

theorem heldAfter_append (held : Option Code) (es es' : List Event) :
    heldAfter held (es ++ es') = heldAfter (heldAfter held es) es' := by
  induction es generalizing held with
  | nil => rfl
  | cons e es ih =>
    rw [List.cons_append, heldAfter, heldAfter]
    cases e.action <;> exact ih _

theorem lastPressed_append (last : Option Code) (es es' : List Event) :
    lastPressed last (es ++ es') = lastPressed (lastPressed last es) es' := by
  induction es generalizing last with
  | nil => rfl
  | cons e es ih =>
    rw [List.cons_append, lastPressed, lastPressed]
    cases e.action <;> exact ih _

/-- The events of a move account for what it writes. -/
theorem TrackerMove.events_account {a l a' l' : Option Code} {es : List Event}
    (h : TrackerMove a l a' l' es) : heldAfter a es = a' ∧ lastPressed l es = l' := by
  cases h with
  | keep => exact ⟨rfl, rfl⟩
  | release c _ => exact ⟨rfl, rfl⟩
  | press c _ => cases a <;> exact ⟨rfl, rfl⟩

/-- Settles O40, by induction on the steps: each is a move of the tracker, whose events account for the
two fields. -/
theorem trackerStateIsTheLastEvents : Obligations.TrackerStateIsTheLastEvents := by
  unfold Obligations.TrackerStateIsTheLastEvents
  intro k
  induction k with
  | zero =>
    intro s t _ h
    obtain rfl : s = t := Option.some.inj h
    exact ⟨rfl, rfl⟩
  | succ k ih =>
    intro s t hs h
    obtain ⟨u, hstep, hu⟩ := State.after_succ h
    obtain ⟨hactive, hlast⟩ := (step_moves hs.1 hstep).events_account
    rw [State.eventsAlong_succ hstep, heldAfter_append, hactive, lastPressed_append, hlast]
    exact ih u t (hs.step hstep) hu

end Sys2Proof.Machine
end

section
/-!
The two queries of the host: the response words of LAST and WAS (30_encoding.md R99) read back, and what
each query answers and leaves unchanged (42_event_dispatch.md R207, R208).
-/

namespace Sys2Proof.Machine

/-! ## The response words (R99) -/

/-- Bit 8 of LAST's response says that a code was reported. -/
theorem lastResponse_valid (c : Code) : (lastResponse (some c)).getLsbD 8 = true :=
  getLsbD_append_high 1#1 c 8 (Nat.le_refl 8)

/-- Bits 7:0 of LAST's response hold the code reported. -/
theorem lastResponse_code (c : Code) : (lastResponse (some c)).extractLsb' 0 8 = c :=
  (extract_append_low 1#1 c (Nat.le_refl 8)).trans (extract_whole c)

theorem wasResponse_eq (flag : Bool) : wasResponse flag = if flag then 0x001 else 0x000 := by
  cases flag <;> rfl

/-- A step starts with response 0, so answering 0 writes nothing more. -/
theorem State.begin_respond_zero (s : State) : s.begin.respond 0 = s.begin := rfl

/-! ## LAST and WAS -/

/-- Settles O46: by whether a code was ever reported. -/
theorem lastReturnsTheReportedCode : Obligations.LastReturnsTheReportedCode := by
  unfold Obligations.LastReturnsTheReportedCode
  intro s
  rw [exec_eq, execResult_last]
  constructor
  · intro hnone
    rw [hnone, lastResponse, State.begin_respond_zero]
  · intro c hsome
    rw [hsome]
    exact ⟨lastResponse (some c), lastResponse_valid c, lastResponse_code c, rfl⟩

/-- Settles O47: WAS answers from the flag as it was before it is cleared. -/
theorem wasReturnsAndClearsTheFlag : Obligations.WasReturnsAndClearsTheFlag := by
  unfold Obligations.WasReturnsAndClearsTheFlag
  intro s
  rw [exec_eq, execResult_was, wasResponse_eq]
  rfl

end Sys2Proof.Machine
end

section
/-!
The idle host operations: a later CONNECT (43_connect_and_step.md R231).
-/

namespace Sys2Proof.Machine

/-- Connected, CONNECT takes the branch that only answers 0 and so keeps the first configuration. -/
theorem execResult_connect_of_connected (v : Protocol) (p : Pin) {s : State} (hs : s.connected = true) :
    execResult (.connect v p) s = s.begin := by
  rw [execResult_connect, if_pos hs, State.begin_respond_zero]

/-- Settles O50: by the branch CONNECT takes when connected. -/
theorem laterConnectIsASilentNoOp : Obligations.LaterConnectIsASilentNoOp := by
  unfold Obligations.LaterConnectIsASilentNoOp
  intro v p s hs
  rw [exec_eq, execResult_connect_of_connected v p hs]

end Sys2Proof.Machine
end

section
/-!
The step of a cycle with `rst` high (70_reset_and_hazards.md R280).
-/

namespace Sys2Proof.Machine

/-- The reset line is looked at before the script, the pulse path, the watcher and the host. -/
theorem State.fetch_of_rst {s : State} (hrst : s.cycle.rst = true) : s.fetch = .reset s.resetFields :=
  if_pos hrst

theorem step_of_fetch_reset {s t : State} (hfetch : s.fetch = .reset t) : step s = .next t := by
  rw [step, hfetch]

/-- With `rst` high a step is the reset and nothing else. -/
theorem step_of_rst {s : State} (hrst : s.cycle.rst = true) : step s = .next s.resetFields :=
  step_of_fetch_reset (State.fetch_of_rst hrst)

/-- Settles O3: the step goes to `resetFields`, whose fields the lemmas of that operation give; that the
cycle's words are gone, its fields `pulse` and `host`, is read from `State.resetFields_cycle`. -/
theorem resetLineResetsEveryField : Obligations.ResetLineResetsEveryField := by
  unfold Obligations.ResetLineResetsEveryField
  intro s hrst
  refine ⟨s.resetFields, step_of_rst hrst, ?_⟩
  simp

end Sys2Proof.Machine
end

section
/-!
The words of 30_encoding.md against the operations they stand for: the fields of a host word whatever its
reserved bits hold, the word of every operation read back, and what a decoded word says of its operation.
-/

namespace Sys2Proof

/-! ## The bands of DISC and the cases of SYNC, read back (30_encoding.md R91, R94) -/

/-- What each class says of the duration, whatever the order of the thresholds (40_frame_decoder.md R135). -/
theorem band_of_classify (c : Config) (d : Duration) :
    match classify c d with
    | .zero => d.toNat < c.tOne
    | .one => c.tOne ≤ d.toNat ∧ d.toNat < c.tSync
    | .repeatCode => c.tSync ≤ d.toNat ∧ d.toNat < c.tStartLo
    | .start => c.tStartLo ≤ d.toNat ∧ d.toNat < c.tStartHi
    | .long => c.tStartHi ≤ d.toNat := by
  unfold classify
  by_cases h1 : d.toNat < c.tOne
  · simp [h1]
  by_cases h2 : d.toNat < c.tSync
  · simp [h1, h2]; omega
  by_cases h3 : d.toNat < c.tStartLo
  · simp [h1, h2, h3]; omega
  by_cases h4 : d.toNat < c.tStartHi
  · simp [h1, h2, h3, h4]; omega
  · simp [h1, h2, h3, h4]; omega

/-- The operation a duration on W-SYM stands for has it in its band, and is selected by its class. -/
theorem decodeSym_selected (k : Select) (d : Duration) :
    (decodeSym k d).wellFormed k.cfg = true ∧ (decodeSym k d).selected k = true := by
  have hband := band_of_classify k.cfg d
  unfold decodeSym
  cases h : classify k.cfg d <;> simp_all [Instr.wellFormed, Instr.selected]

/-- Only a 1 fires the resynchronisation heuristic (40_frame_decoder.md R143, R155). -/
theorem bit_of_bitPhase_resync {c : Config} {p : Protocol} {n : Nat} {b : Bool}
    (h : bitPhase c p n b = .resync) : b = true := by
  have hfires : resyncFires c p n b = true := by
    unfold bitPhase at h
    split_ifs at h with _ hfires
    exact hfires
  unfold resyncFires at hfires
  split at hfires
  · cases hfires
  · split at hfires
    · exact hfires
    · simp_all

/-- The operation a data bit on W-FRM stands for is selected by its case. -/
theorem decodeBit_selected (k : Select) (b : Bool) :
    (decodeBit k b).wellFormed k.cfg = true ∧ (decodeBit k b).selected k = true := by
  unfold decodeBit
  cases h : bitPhase k.cfg k.protocol k.count b with
  | resync =>
    obtain rfl := bit_of_bitPhase_resync h
    simp [Instr.wellFormed, Instr.selected, h]
  | _ => simp [Instr.wellFormed, Instr.selected, h]

/-! ## P-HCMD (R97, R98) -/

section HostWords

variable (op : BitVec 4)

/-- The operation field of a word laid out as CONNECT's. -/
theorem connectLayout_op (r : BitVec 19) (v : BitVec 1) (p : Pin) :
    BitVec.extractLsb' 28 4 (op ++ r ++ v ++ p : HostWord) = op := by
  rw [extract_append_high 28 4 _ _ (by omega), extract_append_high _ 4 _ _ (by omega),
    extract_append_high _ 4 _ _ (by omega), extract_whole]

/-- The operation field of a word laid out as ONBTN's. -/
theorem onbtnLayout_op (r : BitVec 2) (h : HandlerId) (a any : BitVec 1) (c : Code) :
    BitVec.extractLsb' 28 4 (op ++ r ++ h ++ a ++ any ++ c : HostWord) = op := by
  rw [extract_append_high 28 4 _ _ (by omega), extract_append_high _ 4 _ _ (by omega),
    extract_append_high _ 4 _ _ (by omega), extract_append_high _ 4 _ _ (by omega),
    extract_append_high _ 4 _ _ (by omega), extract_whole]

/-- The handler field of a word laid out as ONBTN's. -/
theorem onbtnLayout_handler (r : BitVec 2) (h : HandlerId) (a any : BitVec 1) (c : Code) :
    BitVec.extractLsb' 10 16 (op ++ r ++ h ++ a ++ any ++ c : HostWord) = h := by
  rw [extract_append_high 10 16 _ _ (by omega), extract_append_high _ 16 _ _ (by omega),
    extract_append_high _ 16 _ _ (by omega), extract_append_low _ _ (by omega), extract_whole]

/-- The flag fields of a word laid out as ONBTN's. -/
theorem onbtnLayout_flags (r : BitVec 2) (h : HandlerId) (a any : BitVec 1) (c : Code) :
    BitVec.getLsbD (op ++ r ++ h ++ a ++ any ++ c : HostWord) 9 = a.getLsbD 0 ∧
      BitVec.getLsbD (op ++ r ++ h ++ a ++ any ++ c : HostWord) 8 = any.getLsbD 0 := by
  rw [getLsbD_append_high _ _ 9 (by omega), getLsbD_append_high _ _ _ (by omega),
    getLsbD_append_low _ _ _ (by omega), getLsbD_append_high _ _ 8 (by omega),
    getLsbD_append_low _ _ _ (by omega)]
  exact ⟨rfl, rfl⟩

end HostWords

/-- The bit of a flag field. -/
theorem getLsbD_ofBool_zero (b : Bool) : (BitVec.ofBool b).getLsbD 0 = b := by cases b <;> rfl

theorem decodeHost_connect (r : BitVec 19) (v : Protocol) (p : Pin) :
    decodeHost (0x1#4 ++ r ++ BitVec.ofBool v.bit ++ p) = .connect v p := by
  unfold decodeHost
  rw [connectLayout_op, getLsbD_append_high _ _ 8 (by omega), getLsbD_append_low _ _ _ (by omega),
    getLsbD_ofBool_zero, extract_append_low _ _ (by omega), extract_whole, Protocol.ofBit_bit]
  rfl

theorem decodeHost_onbtn (r : BitVec 2) (h : HandlerId) (a : Action) (any : Bool) (c : Code) :
    decodeHost (0x2#4 ++ r ++ h ++ BitVec.ofBool a.bit ++ BitVec.ofBool any ++ c) =
      .onbtn h a any c := by
  obtain ⟨haction, hany⟩ :=
    onbtnLayout_flags 0x2#4 r h (BitVec.ofBool a.bit) (BitVec.ofBool any) c
  unfold decodeHost
  rw [onbtnLayout_op, onbtnLayout_handler, haction, hany, getLsbD_ofBool_zero, getLsbD_ofBool_zero,
    extract_append_low _ _ (by omega), extract_whole, Action.ofBit_bit]
  rfl

/-- NOP, LAST and WAS have no operand field. -/
theorem decodeHost_bare (r : BitVec 28) :
    decodeHost (0x0#4 ++ r) = .nop ∧ decodeHost (0x3#4 ++ r) = .last ∧ decodeHost (0x4#4 ++ r) = .was := by
  simp only [decodeHost, op_append]
  exact ⟨rfl, rfl, rfl⟩

theorem decodeHost_reserved {op : BitVec 4} (hop : 5 ≤ op.toNat) (r : BitVec 28) :
    decodeHost (op ++ r) = .reserved op := by
  unfold decodeHost
  rw [op_append]
  split
  case h_6 => rfl
  all_goals omega

/-- The operands of a decoded host word are in range: a word of `op` 5 or more alone is reserved. -/
theorem decodeHost_selected (k : Select) (w : HostWord) :
    (decodeHost w).wellFormed k.cfg = true ∧ (decodeHost w).selected k = true := by
  unfold decodeHost
  split
  case h_6 h0 h1 h2 h3 h4 =>
    rw [imp_false] at h0 h1 h2 h3 h4
    simp only [Instr.wellFormed, Instr.selected, decide_eq_true_eq, and_true]
    omega
  all_goals exact ⟨rfl, rfl⟩

/-- Settles O7, from the decoding of each layout. -/
theorem hostWordFieldsAndReservedBits : Obligations.HostWordFieldsAndReservedBits := by
  unfold Obligations.HostWordFieldsAndReservedBits
  exact ⟨fun r => (decodeHost_bare r).1, decodeHost_connect, decodeHost_onbtn,
    fun r => (decodeHost_bare r).2.1, fun r => (decodeHost_bare r).2.2,
    fun _ r hop => decodeHost_reserved hop r⟩

/-! ## P-INV (R100) -/

theorem decodeInv_invWord (h : HandlerId) (a : Action) (c : Code) :
    decodeInv (invWord h a c) =
      some (match a with
        | .pressed => .evPressed h c
        | .released => .evReleased h c) := by
  unfold decodeInv
  rw [invWord_reserved, invWord_action, Action.ofBit_bit, invWord_handler, invWord_code]
  cases a <;> rfl

/-- Settles O8. -/
theorem invocationRecordWordFields : Obligations.InvocationRecordWordFields := by
  unfold Obligations.InvocationRecordWordFields
  intro r
  unfold Machine.Invocation.word
  exact ⟨invWord_handler _ _ _, invWord_action _ _ _, invWord_reserved _ _ _, invWord_code _ _ _,
    decodeInv_invWord _ _ _⟩

/-! ## Every operation -/

/-- Settles O4, by the word of each operation: a port word gives its fields back, and on an internal bus
the condition that selects the operation is the one the decoder tests. -/
theorem decodeOfEncodeIsTheOperation : Obligations.DecodeOfEncodeIsTheOperation := by
  unfold Obligations.DecodeOfEncodeIsTheOperation
  intro k i hwf hsel
  cases i with
  | mark dur => simp [encode, decode, decodePulse_pulseWord]
  | space dur => simp [encode, decode, decodePulse_pulseWord]
  | symZero d | symOne d | symRepeat d | symStart d | symLong d =>
    have hclass := eq_of_beq hsel
    simp [encode, decode, decodeSym, hclass]
  | bitAddr | bitResync | bitInvaddr | bitCmd | bitCmdlast | bitInvcmd =>
    have hphase := eq_of_beq hsel
    simp [encode, decode, decodeBit, hphase]
  | trkCmdnew c =>
    have hnew : k.active ≠ some c := by simpa [Instr.selected] using hsel
    simp [encode, decode, decodeDres_command, hnew]
  | trkCmdsame c =>
    have hsame : k.active = some c := eq_of_beq hsel
    simp [encode, decode, decodeDres_command, hsame]
  | trkRepeat => exact decodeDres_repeat k 0
  | trkIncomplete => exact decodeDres_incomplete k 0
  | wchk => rfl
  | evPressed h c => exact decodeInv_invWord h .pressed c
  | evReleased h c => exact decodeInv_invWord h .released c
  | nop => exact congrArg some (decodeHost_bare 0).1
  | connect v p => exact congrArg some (decodeHost_connect 0 v p)
  | onbtn h a any c => exact congrArg some (decodeHost_onbtn 0 h a any c)
  | last => exact congrArg some (decodeHost_bare 0).2.1
  | was => exact congrArg some (decodeHost_bare 0).2.2
  | reserved op => exact congrArg some (decodeHost_reserved (of_decide_eq_true hwf) 0)

theorem decodePulse_selected (k : Select) (w : PulseWord) :
    (decodePulse w).wellFormed k.cfg = true ∧ (decodePulse w).selected k = true := by
  unfold decodePulse
  split <;> exact ⟨rfl, rfl⟩

theorem decodeDres_selected {k : Select} {w : DresWord} {i : Instr} (h : decodeDres k w = some i) :
    i.wellFormed k.cfg = true ∧ i.selected k = true := by
  unfold decodeDres at h
  split at h
  · split at h <;> obtain rfl := Option.some.inj h <;> simp_all [Instr.wellFormed, Instr.selected]
  · obtain rfl := Option.some.inj h; exact ⟨rfl, rfl⟩
  · obtain rfl := Option.some.inj h; exact ⟨rfl, rfl⟩
  · cases h

theorem decodeInv_selected {k : Select} {w : InvWord} {i : Instr} (h : decodeInv w = some i) :
    i.wellFormed k.cfg = true ∧ i.selected k = true := by
  unfold decodeInv at h
  split at h
  · cases h
  · split at h <;> obtain rfl := Option.some.inj h <;> exact ⟨rfl, rfl⟩

/-- Settles O5, by the port the word is presented on. -/
theorem decodedOperationIsSelected : Obligations.DecodedOperationIsSelected := by
  unfold Obligations.DecodedOperationIsSelected
  intro k w i h
  cases w with
  | pulse w => obtain rfl := Option.some.inj h; exact decodePulse_selected k w
  | sym d => obtain rfl := Option.some.inj h; exact decodeSym_selected k d
  | bit b => obtain rfl := Option.some.inj h; exact decodeBit_selected k b
  | dres w => exact decodeDres_selected h
  | timer => obtain rfl := Option.some.inj h; exact ⟨rfl, rfl⟩
  | inv w => exact decodeInv_selected h
  | host w => obtain rfl := Option.some.inj h; exact decodeHost_selected k w

/-- Settles O6, word by word. -/
theorem writtenOutWordsDecode : Obligations.WrittenOutWordsDecode := by
  unfold Obligations.WrittenOutWordsDecode
  exact ⟨by decide, by decide, by decide, by decide, by decide, by decide, by decide, by decide,
    by decide, by decide, by decide⟩

/-- Settles O9: a duration of a band has its class, and a class has no duration outside its band. -/
theorem symbolBandsAreHalfOpen : Obligations.SymbolBandsAreHalfOpen := by
  unfold Obligations.SymbolBandsAreHalfOpen
  intro c d hc
  have hband := band_of_classify c d
  exact ⟨⟨fun h => by rwa [h] at hband, Machine.classify_eq_zero⟩,
    ⟨fun h => by rwa [h] at hband, fun ⟨lo, hi⟩ => Machine.classify_eq_one lo hi⟩,
    ⟨fun h => by rwa [h] at hband, fun ⟨lo, hi⟩ => Machine.classify_eq_repeatCode hc lo hi⟩,
    ⟨fun h => by rwa [h] at hband, fun ⟨lo, hi⟩ => Machine.classify_eq_start hc lo hi⟩,
    ⟨fun h => by rwa [h] at hband, Machine.classify_eq_long hc⟩⟩

end Sys2Proof
end

section
/-!
One step of the machine: which input it takes (43_connect_and_step.md R236, R237), that it completes when its
inputs alone drive it (R235), and the three steps of one cycle in their order. A case of a stage that the
state does not select (30_encoding.md R104) closes the section.
-/

namespace Sys2Proof.Machine

/-! ## The input a step takes -/

/-- The watcher's expiry as its two conditions (41_command_tracker.md R180 b). -/
theorem State.watchFallsDue_iff (s : State) :
    s.watchFallsDue = true ↔ s.connected = true ∧ s.now = s.watchDue := by
  simp [State.watchFallsDue]

section Fetch

variable {s : State}

theorem State.fetch_of_script {l : ScriptLine} {rest : List ScriptLine} (hrst : s.cycle.rst = false)
    (hscript : s.script = l :: rest) : s.fetch = .word l.word (s.takeScript l rest) := by
  simp [State.fetch, hrst, hscript]

theorem State.fetch_of_pulse {p : PulseWord} (hrst : s.cycle.rst = false) (hscript : s.script = [])
    (hpulse : s.cycle.pulse = some p) : s.fetch = .word (.pulse p) s.takePulse := by
  simp [State.fetch, hrst, hscript, State.arbitrate, hpulse]

theorem State.fetch_of_timer (hrst : s.cycle.rst = false) (hscript : s.script = [])
    (hpulse : s.cycle.pulse = none) (hdue : s.watchFallsDue = true) : s.fetch = .word .timer s := by
  simp [State.fetch, hrst, hscript, State.arbitrate, hpulse, hdue]

theorem State.fetch_of_host {h : HostWord} (hrst : s.cycle.rst = false) (hscript : s.script = [])
    (hpulse : s.cycle.pulse = none) (hdue : s.watchFallsDue = false) (hhost : s.cycle.host = some h) :
    s.fetch = .word (.host h) s.takeHost := by
  simp [State.fetch, hrst, hscript, State.arbitrate, hpulse, hdue, hhost]

theorem State.fetch_of_idle (hrst : s.cycle.rst = false) (hscript : s.script = [])
    (hpulse : s.cycle.pulse = none) (hdue : s.watchFallsDue = false) (hhost : s.cycle.host = none) :
    s.fetch = .idle s.nextCycle := by
  simp [State.fetch, hrst, hscript, State.arbitrate, hpulse, hdue, hhost]

/-- Taking an input touches the ports of the cycle and the script, and nothing else. -/
theorem fetch_word_eq {u : State} {w : BusWord} (h : s.fetch = .word w u) :
    ∃ c l, u = { s with cycle := c, script := l } := by
  obtain ⟨_, _, -, -, rfl⟩ | ⟨-, _, -, -, rfl⟩ | ⟨-, -, -, -, rfl⟩ | ⟨-, -, -, _, -, -, rfl⟩ :=
    fetch_word_cases s u w h <;>
  exact ⟨_, _, rfl⟩

theorem step_of_fetch_word {u : State} {w : BusWord} {i : Instr} (hfetch : s.fetch = .word w u)
    (hdecode : decode u.select w = some i) : step s = exec i u := by
  rw [step, hfetch]
  simp only [hdecode]

theorem step_of_fetch_refused {u : State} {w : BusWord} (hfetch : s.fetch = .word w u)
    (hdecode : decode u.select w = none) : step s = .refused .noOperation := by
  rw [step, hfetch]
  simp only [hdecode]

theorem step_of_fetch_idle {u : State} (hfetch : s.fetch = .idle u) : step s = .next u := by
  rw [step, hfetch]

end Fetch

/-- What an idle step writes beside the outputs: the ports and the cycles to come (log 3). -/
theorem State.nextCycle_eq (s : State) :
    ∃ c cs, s.nextCycle = { s.begin with cycle := c, cycles := cs } ∧
      (s.cycles = c :: cs ∨
        cs = s.cycles ∧ c = { now := s.now + 1, rst := false, pulse := none, host := none }) := by
  obtain ⟨htick, -⟩ | ⟨c, rest, hs, -, hnext⟩ := s.nextCycle_cases
  · exact ⟨_, s.cycles, htick, .inr ⟨rfl, rfl⟩⟩
  · exact ⟨c, rest, hnext, .inl hs⟩

/-- Settles O10, by the input the step takes. -/
theorem stepRunsTheDecodedOperation : Obligations.StepRunsTheDecodedOperation := by
  unfold Obligations.StepRunsTheDecodedOperation
  intro s hrst
  have notDue (h : ¬(s.connected = true ∧ s.now = s.watchDue)) : s.watchFallsDue = false := by
    rwa [← s.watchFallsDue_iff, Bool.not_eq_true] at h
  refine ⟨?script, ?pulse, ?timer, ?host, ?idle⟩
  case script =>
    intro l rest i hscript hdecode
    exact step_of_fetch_word (State.fetch_of_script hrst hscript) hdecode
  case pulse =>
    intro p hscript hpulse
    exact step_of_fetch_word (State.fetch_of_pulse hrst hscript hpulse) rfl
  case timer =>
    intro hscript hpulse hconn hnow
    exact step_of_fetch_word
      (State.fetch_of_timer hrst hscript hpulse (s.watchFallsDue_iff.mpr ⟨hconn, hnow⟩)) rfl
  case host =>
    intro h hscript hpulse hdue hhost
    exact step_of_fetch_word (State.fetch_of_host hrst hscript hpulse (notDue hdue) hhost) rfl
  case idle =>
    intro hscript hpulse hdue hhost
    obtain ⟨c, cs, hnext, hcycles⟩ := s.nextCycle_eq
    refine ⟨c, cs, ?_, hcycles⟩
    rw [step_of_fetch_idle (State.fetch_of_idle hrst hscript hpulse (notDue hdue) hhost), hnext]

/-- Settles O11: neither word decodes. -/
theorem stageWordOfNoOperationIsRefused : Obligations.StageWordOfNoOperationIsRefused := by
  unfold Obligations.StageWordOfNoOperationIsRefused
  intro s l rest hrst hscript
  have hfetch := State.fetch_of_script hrst hscript
  refine ⟨fun c hword => ?_, fun w hreserved hword => ?_⟩ <;> rw [hword] at hfetch
  · exact step_of_fetch_refused hfetch (decodeDres_never _ c)
  · exact step_of_fetch_refused hfetch (if_pos hreserved)

/-! ## A step driven by inputs alone -/

/-- The input taken is one of 43_connect_and_step.md R236, and the rest of the script holds no other. -/
theorem State.inputsOnly.fetch_word {s u : State} {w : BusWord} (hs : s.inputsOnly)
    (h : s.fetch = .word w u) : w.isInput = true ∧ u.inputsOnly := by
  obtain ⟨l, rest, hscript, rfl, rfl⟩ | ⟨-, _, -, rfl, rfl⟩ | ⟨-, -, -, rfl, rfl⟩ |
    ⟨-, -, -, _, -, rfl, rfl⟩ := fetch_word_cases s u w h
  case inl =>
    rw [State.inputsOnly, hscript, List.forall_mem_cons] at hs
    exact hs
  all_goals exact ⟨rfl, hs⟩

theorem State.inputsOnly_execResult (i : Instr) {s : State} (hs : s.inputsOnly) :
    (execResult i s).inputsOnly := by
  obtain ⟨-, -, -, hscript⟩ := execResult_environment i s
  rwa [State.inputsOnly, hscript]

/-- What a step can do that inputs alone drive: reset, an input, or the next clock cycle. -/
theorem State.inputsOnly.step_cases {s t : State} (hs : s.inputsOnly) (h : step s = .next t) :
    t = s.resetFields ∨
    (∃ w u i, s.fetch = .word w u ∧ isStageCase i = false ∧ t = execResult i u) ∨
    (s.script = [] ∧ s.watchFallsDue = false ∧ t = s.nextCycle) := by
  obtain ⟨-, ht⟩ | ⟨-, w, u, i, hfetch, hdecode, ht⟩ | ⟨-, hscript, -, hdue, -, ht⟩ :=
    Machine.step_cases s t h
  · exact .inl ht
  · obtain ⟨j, hj, hstage⟩ := decode_input u.select w (hs.fetch_word hfetch).1
    obtain rfl : j = i := Option.some.inj (hj.symm.trans hdecode)
    exact .inr (.inl ⟨w, u, j, hfetch, hstage, ht⟩)
  · exact .inr (.inr ⟨hscript, hdue, ht⟩)

/-- A state that inputs alone drive keeps being driven by them. -/
theorem State.inputsOnly.step {s t : State} (hs : s.inputsOnly) (h : step s = .next t) :
    t.inputsOnly := by
  obtain rfl | ⟨w, u, i, hfetch, -, rfl⟩ | ⟨-, -, rfl⟩ := hs.step_cases h
  · exact hs
  · exact State.inputsOnly_execResult i (hs.fetch_word hfetch).2
  · rwa [State.inputsOnly, State.nextCycle_script]

/-- Settles O12: an input always decodes, and `exec` always answers. -/
theorem everyInputDrivenStepCompletes : Obligations.EveryInputDrivenStepCompletes := by
  unfold Obligations.EveryInputDrivenStepCompletes
  intro s hs
  have hcompletes : ∃ t, step s = .next t := by
    cases hfetch : s.fetch with
    | reset u => exact ⟨u, step_of_fetch_reset hfetch⟩
    | idle u => exact ⟨u, step_of_fetch_idle hfetch⟩
    | word w u =>
      obtain ⟨i, hdecode, -⟩ := decode_input u.select w (hs.fetch_word hfetch).1
      exact ⟨execResult i u, (step_of_fetch_word hfetch hdecode).trans (exec_eq i u)⟩
  obtain ⟨t, ht⟩ := hcompletes
  exact ⟨t, ht, hs.step ht⟩

/-! ## The three inputs of one cycle -/

/-- A pulse report changes neither the connection nor the watcher's timer. -/
theorem execResult_decodePulse_frame (p : PulseWord) (s : State) :
    (execResult (decodePulse p) s).connected = s.connected ∧
      (execResult (decodePulse p) s).watchDue = s.watchDue := by
  unfold decodePulse
  split
  · rw [execResult_space]; split <;> simp
  · rw [execResult_mark]; split <;> simp

/-- At this spec's parameters the reload puts the timer ahead of `now`, so one check is made in a cycle. -/
theorem watchFallsDue_execResult_wchk {s : State} (hcfg : s.cfg = Config.irdec)
    (hconn : s.connected = true) : (execResult .wchk s).watchFallsDue = false := by
  have hperiod : s.begin.releaseIfTimedOut.watchPeriod = 120 ∨
      s.begin.releaseIfTimedOut.watchPeriod = 240 := by
    have hcfg' : s.begin.releaseIfTimedOut.cfg = Config.irdec := by simpa using hcfg
    unfold State.watchPeriod
    rw [hcfg']
    split
    exacts [.inr rfl, .inl rfl]
  rw [← Bool.not_eq_true, State.watchFallsDue_iff, execResult_wchk, if_pos hconn]
  rintro ⟨-, hnow⟩
  have hahead : s.now = later s.now s.begin.releaseIfTimedOut.watchPeriod := by simpa using hnow
  obtain hp | hp := hperiod <;> rw [hp, later] at hahead <;> bv_omega

/-- Settles O13: the pulse step leaves the timer due and the watcher's step leaves it ahead, so that the host
command is what is left for the third. -/
theorem inputsOfOneCycleTakeEffectInOrder : Obligations.InputsOfOneCycleTakeEffectInOrder := by
  unfold Obligations.InputsOfOneCycleTakeEffectInOrder
  intro s p h hcfg hrst hscript hpulse hhost hconn hdue
  obtain ⟨s1, hs1⟩ : ∃ s1, s1 = execResult (decodePulse p) s.takePulse := ⟨_, rfl⟩
  obtain ⟨s2, hs2⟩ : ∃ s2, s2 = execResult .wchk s1 := ⟨_, rfl⟩
  obtain ⟨s3, hs3⟩ : ∃ s3, s3 = execResult (decodeHost h) s2.takeHost := ⟨_, rfl⟩
  obtain ⟨hcfg1, hcycle1, -, hscript1⟩ := execResult_environment (decodePulse p) s.takePulse
  obtain ⟨hconn1, hdue1⟩ := execResult_decodePulse_frame p s.takePulse
  obtain ⟨-, hcycle2, -, hscript2⟩ := execResult_environment .wchk s1
  obtain ⟨-, hcycle3, -, -⟩ := execResult_environment (decodeHost h) s2.takeHost
  rw [← hs1] at hcfg1 hcycle1 hscript1 hconn1 hdue1
  rw [← hs2, hcycle1] at hcycle2
  rw [← hs2, hscript1] at hscript2
  rw [← hs3] at hcycle3
  have hnow1 : s1.now = s.now := by rw [State.now, hcycle1]; rfl
  have hnow2 : s2.now = s.now := by rw [State.now, hcycle2]; rfl
  have hnow3 : s3.now = s.now := by rw [State.now, hcycle3]; exact hnow2
  have hfetch1 : s1.fetch = .word .timer s1 := by
    refine State.fetch_of_timer (by rw [hcycle1]; exact hrst) (hscript1.trans hscript)
      (by rw [hcycle1]; rfl) (s1.watchFallsDue_iff.mpr ⟨hconn1.trans hconn, ?_⟩)
    rw [hnow1, hdue, hdue1]; rfl
  have hfetch2 : s2.fetch = .word (.host h) s2.takeHost := by
    refine State.fetch_of_host (by rw [hcycle2]; exact hrst) (hscript2.trans hscript)
      (by rw [hcycle2]; rfl) ?_ (by rw [hcycle2]; exact hhost)
    rw [hs2]
    exact watchFallsDue_execResult_wchk (hcfg1.trans hcfg) (hconn1.trans hconn)
  have hexec1 := hs1 ▸ exec_eq (decodePulse p) s.takePulse
  have hexec2 := hs2 ▸ exec_eq .wchk s1
  have hexec3 := hs3 ▸ exec_eq (decodeHost h) s2.takeHost
  exact ⟨s1, s2, s3,
    (step_of_fetch_word (State.fetch_of_pulse hrst hscript hpulse) rfl).trans hexec1, hexec1,
    (step_of_fetch_word hfetch1 rfl).trans hexec2, hexec2,
    (step_of_fetch_word hfetch2 rfl).trans hexec3, hexec3, hnow1, hnow2, hnow3⟩

/-! ## A case that is not selected -/

/-- Settles O14: the meaning of a case tests the condition that selects it. -/
theorem unselectedCaseDoesNothing : Obligations.UnselectedCaseDoesNothing := by
  unfold Obligations.UnselectedCaseDoesNothing
  intro i s h
  cases i with
  | symZero | symOne | symRepeat | symStart | symLong => exact if_neg (beq_eq_false_iff_ne.mp h)
  | bitAddr | bitResync | bitInvaddr | bitCmd | bitCmdlast | bitInvcmd =>
    exact if_neg (beq_eq_false_iff_ne.mp h)
  | trkCmdnew c =>
    have hsame : s.select.active = some c := by simpa [Instr.selected] using h
    exact if_pos hsame
  | trkCmdsame c => exact if_neg (beq_eq_false_iff_ne.mp h)
  | _ => cases h

end Sys2Proof.Machine
end

section
/-!
One pulse pair: what the decoder makes of a data bit and of a pair at this spec's parameters, and that only
the sum of a pair's two durations counts (40_frame_decoder.md R132, R141, R149, R155; 10_state.md R42 line 1).
-/

namespace Sys2Proof.Machine

/-! ## SYNC: a bit is its case (R141) -/

/-- The bit case that a data bit decodes to does what `push_bit` does. -/
theorem exec_decodeBit (s : State) (b : Bool) :
    exec (decodeBit s.select b) s = .next (s.begin.pushBit b) := by
  have hk : bitPhase s.select.cfg s.select.protocol s.select.count b = s.phase b := rfl
  unfold decodeBit State.pushBit
  rw [hk, State.begin_phase]
  cases h : s.phase b with
  | addr => exact exec_bitAddr h
  | resync =>
    obtain rfl := bit_of_bitPhase_resync h
    exact exec_bitResync h
  | invAddr => exact exec_bitInvaddr h
  | cmd => exact exec_bitCmd h
  | cmdLast => exact exec_bitCmdlast h
  | invCmd => exact exec_bitInvcmd h

/-- Settles O21: both sides push the bit. -/
theorem dataSymbolIsItsBitCase : Obligations.DataSymbolIsItsBitCase := by
  unfold Obligations.DataSymbolIsItsBitCase
  intro d s
  exact ⟨fun h => ⟨_, rfl, (exec_symZero h).trans (exec_decodeBit s false).symm⟩,
    fun h => ⟨_, rfl, (exec_symOne h).trans (exec_decodeBit s true).symm⟩⟩

/-- R155: under `FIRST_ONLY` a 1 in the address region of ZA fires the heuristic at count 1 alone. -/
theorem bitPhase_firstOnly {n : Nat} (hi : n ≤ 8) :
    bitPhase { Config.irdec with resyncRule := .firstOnly } .za n true =
      if n = 1 then .resync else .addr := by
  simp [bitPhase, resyncFires, Config.irdec, hi]

/-- Settles O24: the case of a 1 at count 1, and at any other count of the address region. -/
theorem firstOnlyResyncsOnTheFirstPair : Obligations.FirstOnlyResyncsOnTheFirstPair := by
  unfold Obligations.FirstOnlyResyncsOnTheFirstPair
  intro s hcfg hza hi
  have hphase : s.phase true = if s.bitsReceived + 1 = 1 then .resync else .addr := by
    rw [State.phase, State.nextCount, hcfg, hza, bitPhase_firstOnly hi]
  have hnine : s.begin.cfg.resyncTo = 9 := by rw [State.begin_cfg, hcfg]; rfl
  constructor
  · intro hfirst
    rw [exec_bitResync (hphase.trans (if_pos hfirst)), State.resyncCount, hnine]
  · intro hlater
    exact exec_bitAddr (hphase.trans (if_neg hlater))

/-! ## A pair at this spec's parameters -/

section Pair

variable {s : State}

/-- A pair shorter than 2700 pushes a bit, which is 1 from 1600 on (R136, R137). -/
theorem State.decodePulsePair_data (hcfg : s.cfg = Config.irdec) {d : Duration} (hd : d.toNat < 2700) :
    s.decodePulsePair d = s.pushBit (decide (1600 ≤ d.toNat)) := by
  apply State.decodePulsePair_of_bitClass
  rw [hcfg]
  by_cases h : 1600 ≤ d.toNat
  · rw [decide_eq_true h]
    exact classify_eq_one h hd
  · rw [decide_eq_false h]
    exact classify_eq_zero (Nat.lt_of_not_le h)

/-- A pair of 2700 or more is a synchronisation pulse, whose result is no command (R138 to R140). -/
theorem State.decodePulsePair_sync (hcfg : s.cfg = Config.irdec) {d : Duration} (hd : 2700 ≤ d.toNat) :
    ∃ r, (∀ c, r ≠ .command c) ∧ s.decodePulsePair d = s.syncPulse r := by
  have hband := band_of_classify s.cfg d
  obtain ⟨h, -⟩ | ⟨h, -⟩ | ⟨-, hsync⟩ | ⟨-, hsync⟩ := s.decodePulsePair_cases d
  · rw [h, hcfg] at hband
    exact absurd hband (Nat.not_lt.mpr (Nat.le_trans (by decide : 1600 ≤ 2700) hd))
  · rw [h, hcfg] at hband
    exact absurd hband.2 (Nat.not_lt.mpr hd)
  · exact ⟨.repeatCode, nofun, hsync⟩
  · exact ⟨.incomplete, nofun, hsync⟩

/-- The count after a data bit: one more, but 9 where the heuristic fired (R142 to R148). -/
theorem State.pushBit_bitsReceived (hcfg : s.cfg = Config.irdec) (b : Bool) :
    (s.pushBit b).bitsReceived =
      if s.protocol = .za ∧ b = true ∧ s.bitsReceived + 1 ≤ 8 then 9 else s.bitsReceived + 1 := by
  have hphase := State.phase_irdec hcfg b
  by_cases hfires : s.protocol = .za ∧ b = true ∧ s.bitsReceived + 1 ≤ 8
  · obtain ⟨hza, rfl, hi⟩ := id hfires
    rw [hza, bitPhase_resync hi] at hphase
    rw [if_pos hfires, State.pushBit, hphase]
    exact congrArg Config.resyncTo hcfg
  · rw [if_neg hfires]
    obtain ⟨h, -⟩ | ⟨-, hpush⟩ | ⟨-, hpush⟩ | ⟨-, hpush⟩ := s.pushBit_cases b
    · rw [h, bitPhase_irdec] at hphase
      split_ifs at hphase with hi hone
      exact absurd ⟨hone.1, hone.2, hi⟩ hfires
    all_goals rw [hpush]; rfl

/-- At this spec's parameters the case of the last command bit is that of count 24 (R146). -/
theorem bitPhase_eq_cmdLast_iff (p : Protocol) (n : Nat) (b : Bool) :
    bitPhase Config.irdec p n b = .cmdLast ↔ n = 24 := by
  refine ⟨fun h => ?_, bitPhase_cmdLast⟩
  rw [bitPhase_irdec] at h
  split_ifs at h
  assumption

/-- A data bit gives a command exactly at count 24 (R149). -/
theorem State.pushBit_gives_command_iff (hcfg : s.cfg = Config.irdec) (b : Bool) :
    (∃ c, (s.pushBit b).dres = some (.command c)) ↔ s.bitsReceived + 1 = 24 := by
  rw [← bitPhase_eq_cmdLast_iff s.protocol _ b, ← State.phase_irdec hcfg]
  obtain ⟨h, hpush⟩ | ⟨h, hpush⟩ | ⟨h, hpush⟩ | ⟨h, hpush⟩ := s.pushBit_cases b
  · simp [h, hpush]
  · obtain h | h | h := h <;> simp [h, hpush]
  · simp [h, hpush]
  · simp [h, hpush]

end Pair

/-- What a SPACE of a connected receiver leaves to the outside of the decoder's work. -/
theorem exec_space_decoder {s : State} (hconn : s.connected = true) (dur : Duration) :
    ∃ t, exec (.space dur) s = .next t ∧
      t.bitsReceived = (s.begin.decodePulsePair (pairDuration s.markLatch dur)).bitsReceived ∧
      t.dres = (s.begin.decodePulsePair (pairDuration s.markLatch dur)).dres := by
  refine ⟨_, exec_eq _ s, ?_⟩
  rw [execResult_space, if_pos hconn]
  exact ⟨by simp, by simp⟩

/-- Settles O27, by whether the pair is a data pair. -/
theorem countAfterAPair : Obligations.CountAfterAPair := by
  unfold Obligations.CountAfterAPair
  intro dur s hcfg hconn
  have hcfg' : s.begin.cfg = Config.irdec := hcfg
  obtain ⟨t, ht, hcount, -⟩ := exec_space_decoder hconn dur
  refine ⟨t, ht, fun hsync => ?_, fun hdata => ?_⟩
  · obtain ⟨r, -, hr⟩ := State.decodePulsePair_sync hcfg' hsync
    rw [hcount, hr, State.syncPulse_bitsReceived]
  · rw [hcount, State.decodePulsePair_data hcfg' hdata, State.pushBit_bitsReceived hcfg']
    simp only [State.begin_protocol, State.begin_bitsReceived, decide_eq_true_eq]

/-- Settles O28, by whether the pair is a data pair. -/
theorem commandComesOnlyAtCountTwentyFour : Obligations.CommandComesOnlyAtCountTwentyFour := by
  unfold Obligations.CommandComesOnlyAtCountTwentyFour
  intro dur s t hcfg hconn hexec
  have hcfg' : s.begin.cfg = Config.irdec := hcfg
  obtain ⟨u, hu, -, hdres⟩ := exec_space_decoder hconn dur
  obtain rfl : u = t := Host.Outcome.next.inj (hu.symm.trans hexec)
  rw [hdres]
  by_cases hd : (pairDuration s.markLatch dur).toNat < 2700
  · rw [State.decodePulsePair_data hcfg' hd, State.pushBit_gives_command_iff hcfg']
    exact (and_iff_left hd).symm
  · obtain ⟨r, hr, hsync⟩ := State.decodePulsePair_sync hcfg' (Nat.le_of_not_lt hd)
    rw [hsync, State.syncPulse_dres]
    exact iff_of_false (fun ⟨c, hc⟩ => hr c (Option.some.inj hc)) (fun h => hd h.2)

/-! ## Only the sum of a pair matters (R132) -/

/-- The latch holding `m`, and nothing else changed. -/
def State.setLatch (s : State) (m : Duration) : State := { s with markLatch := m }

theorem State.decodePulsePair_setLatch (s : State) (m d : Duration) :
    (s.setLatch m).decodePulsePair d = (s.decodePulsePair d).setLatch m := by
  have hcfg : (s.setLatch m).cfg = s.cfg := rfl
  have hbit (b : Bool) : (s.setLatch m).pushBit b = (s.pushBit b).setLatch m := by
    have hphase : (s.setLatch m).phase b = s.phase b := rfl
    unfold State.pushBit
    rw [hphase]
    cases s.phase b <;> rfl
  unfold State.decodePulsePair
  rw [hcfg]
  cases classify s.cfg d with
  | zero => exact hbit false
  | one => exact hbit true
  | _ => rfl

theorem State.track_setLatch (s : State) (m : Duration) :
    (s.setLatch m).track = s.track.setLatch m := by
  have hdres : (s.setLatch m).dres = s.dres := rfl
  have hactive : (s.setLatch m).activeCommand = s.activeCommand := rfl
  have hrelease : (s.setLatch m).refreshDeadline.emitRelease = s.refreshDeadline.emitRelease.setLatch m := by
    have hactive' : (s.setLatch m).refreshDeadline.activeCommand = s.refreshDeadline.activeCommand := rfl
    unfold State.emitRelease
    rw [hactive']
    cases s.refreshDeadline.activeCommand <;> rfl
  unfold State.track State.trackCommand State.newCommand
  rw [hdres, hactive, hrelease]
  cases s.dres with
  | none => rfl
  | some r =>
    cases r with
    | command c => dsimp only; split <;> rfl
    | _ => rfl

/-- A pair is what its sum makes of the state, with its mark in the latch. -/
theorem State.afterPair_eq_setLatch {s : State} (hconn : s.connected = true) (q : Pair) :
    s.afterPair q =
      ((s.begin.decodePulsePair (pairDuration q.1 q.2)).track.dispatch).setLatch q.1 := by
  have hlatched : s.latched q.1 = s.begin.setLatch q.1 := rfl
  rw [State.afterPair_eq hconn, hlatched, State.decodePulsePair_setLatch, State.track_setLatch]
  rfl

theorem afterAll_pair (s : State) (q : Pair) :
    afterAll [.mark q.1, .space q.2] s = some (s.afterPair q) :=
  afterAll_pairReports_cons q [] s

/-- The sum saturates above every threshold, so its class is that of the exact sum. -/
theorem classify_pairDuration_eq_long_iff {c : Config} (hc : c.thresholdsOrdered = true)
    (hmax : c.tStartHi ≤ 65535) (m d : Duration) :
    classify c (pairDuration m d) = .long ↔ c.tStartHi ≤ m.toNat + d.toNat := by
  have hlong : classify c (pairDuration m d) = .long ↔ c.tStartHi ≤ (pairDuration m d).toNat := by
    have hband := band_of_classify c (pairDuration m d)
    exact ⟨fun h => by rwa [h] at hband, classify_eq_long hc⟩
  rw [hlong, pairDuration_toNat]
  omega

/-- Settles O18: a pair depends on its two durations through the saturated sum and the latch. -/
theorem onlyTheSumOfAPairMatters : Obligations.OnlyTheSumOfAPairMatters := by
  unfold Obligations.OnlyTheSumOfAPairMatters
  refine ⟨fun m d m' d' s hconn hsum => ?_, fun c m d hc hmax =>
    classify_pairDuration_eq_long_iff hc hmax m d⟩
  have hpair : pairDuration m' d' = pairDuration m d := by rw [pairDuration, pairDuration, hsum]
  refine ⟨s.afterPair (m, d), afterAll_pair s (m, d), (afterAll_pair s (m', d')).trans ?_⟩
  rw [State.afterPair_eq_setLatch hconn, State.afterPair_eq_setLatch hconn]
  dsimp only
  rw [hpair]
  rfl

end Sys2Proof.Machine
end

section
/-!
What the outside cannot observe (10_state.md R23, R28; 40_frame_decoder.md R150; 41_command_tracker.md
R177). The four fields no response and no record shows are gathered in `Hidden`. Two machines alike but for
them stay so, and put out the same, under any relation of their hidden fields that every stage keeps.
-/

namespace Sys2Proof.Machine

/-! ## The meaning of a word -/

/-- The meaning of the word `w`, where it has one. -/
def runWord (w : BusWord) (s : State) : Host.Outcome State Fault Refusal :=
  match decode s.select w with
  | some i => exec i s
  | none => .refused .noOperation

/-- An I-DRES word is some result's word to every state, or no operation to any (30_encoding.md R101). -/
theorem decodeDres_cases (w : DresWord) :
    (∃ r : DecodeResult, ∀ k, decodeDres k w = decodeDres k r.word) ∨ ∀ k, decodeDres k w = none := by
  unfold decodeDres
  match (w.extractLsb' 8 2).toNat with
  | 0 =>
    exact .inl ⟨.command (w.extractLsb' 0 8), fun k => by
      rw [DecodeResult.word, dresWord_tag, dresWord_code]; rfl⟩
  | 1 => exact .inl ⟨.repeatCode, fun k => by rw [DecodeResult.word, dresWord_tag]; rfl⟩
  | 2 => exact .inl ⟨.incomplete, fun k => by rw [DecodeResult.word, dresWord_tag]; rfl⟩
  | n + 3 => exact .inr fun k => rfl

theorem runWord_dres (w : DresWord) :
    (∃ r : DecodeResult, ∀ s : State, runWord (.dres w) s = .next (s.begin.trackResult r)) ∨
      ∀ s : State, runWord (.dres w) s = .refused .noOperation := by
  obtain ⟨r, hr⟩ | hnone := decodeDres_cases w
  · refine .inl ⟨r, fun s => ?_⟩
    obtain ⟨j, hj, hexec⟩ := exec_decodeDres s r
    have hdecode : decode s.select (.dres w) = some j := (hr s.select).trans hj
    rw [runWord, hdecode]
    exact hexec
  · refine .inr fun s => ?_
    have hdecode : decode s.select (.dres w) = none := hnone s.select
    rw [runWord, hdecode]

/-- A P-INV word is one event's record to every state, or no operation to any (30_encoding.md R100). -/
theorem runWord_inv (w : InvWord) :
    (∃ a c, ∀ s : State, runWord (.inv w) s = .next (s.begin.dispatchEvent a c)) ∨
      ∀ s : State, runWord (.inv w) s = .refused .noOperation := by
  have hdecode (s : State) : decode s.select (.inv w) = decodeInv w := rfl
  unfold runWord
  simp only [hdecode]
  unfold decodeInv
  by_cases h8 : w.getLsbD 8 = true
  · rw [if_pos h8]
    exact .inr fun _ => rfl
  · rw [if_neg h8]
    cases Action.ofBit (w.getLsbD 9) with
    | pressed => exact .inl ⟨.pressed, _, fun _ => rfl⟩
    | released => exact .inl ⟨.released, _, fun _ => rfl⟩

/-! ## The hidden fields -/

/-- The pin selector, the count, the accumulator and the deadline of a state. -/
structure Hidden where
  pin : Pin
  count : Nat
  acc : Code
  deadline : Time

def State.hidden (s : State) : Hidden :=
  ⟨s.pinSel, s.bitsReceived, s.commandAccumulator, s.repeatDeadline⟩

/-- The state with other hidden fields. -/
def State.hide (s : State) (h : Hidden) : State :=
  { s with
    pinSel := h.pin
    bitsReceived := h.count
    commandAccumulator := h.acc
    repeatDeadline := h.deadline }

/-- What a data bit makes of the hidden fields (40_frame_decoder.md R141 to R148). -/
def Hidden.push (c : Config) (p : Protocol) (b : Bool) (h : Hidden) : Hidden :=
  match bitPhase c p (h.count + 1) b with
  | .addr => { h with count := h.count + 1 }
  | .resync => { h with count := c.resyncTo }
  | .invAddr => { h with count := h.count + 1 }
  | .cmd => { h with count := h.count + 1, acc := shiftIn h.acc b }
  | .cmdLast => { h with count := h.count + 1, acc := shiftIn h.acc b }
  | .invCmd => { h with count := h.count + 1 }

/-- A relation of hidden fields, under parameters and an active command, that no stage can tell apart and
that every stage keeps. -/
structure Unobservable (P : Config → Option Code → Hidden → Hidden → Prop) : Prop where
  /-- Both counts select the same case for every bit. -/
  phase : ∀ {c a g h}, P c a g h → ∀ p b,
    bitPhase c p (h.count + 1) b = bitPhase c p (g.count + 1) b
  /-- Both accumulators give the same command. -/
  command : ∀ {c a g h}, P c a g h → ∀ p b, bitPhase c p (g.count + 1) b = .cmdLast →
    shiftIn h.acc b = shiftIn g.acc b
  /-- A check on an active command looks at one deadline (41_command_tracker.md R178). -/
  deadline : ∀ {c x g h}, P c (some x) g h → h.deadline = g.deadline
  push : ∀ {c a g h}, P c a g h → ∀ p b, P c a (g.push c p b) (h.push c p b)
  sync : ∀ {c a g h}, P c a g h → P c a { g with count := 0 } { h with count := 0 }
  /-- A refresh, with whatever command is active after it (R173 to R175). -/
  refresh : ∀ {c a g h}, P c a g h → ∀ a' t, P c a' { g with deadline := t } { h with deadline := t }
  release : ∀ {c a g h}, P c a g h → P c none g h
  connect : ∀ {c a g h}, P c a g h → ∀ p, P c a { g with pin := p } { h with pin := p }
  reset : ∀ {c a g h}, P c a g h → P c none ⟨0, 0, 0, 0⟩ ⟨0, 0, 0, 0⟩

/-- The second state is the first but for its hidden fields, which are related. -/
def State.Alike (P : Config → Option Code → Hidden → Hidden → Prop) (s s' : State) : Prop :=
  ∃ h, s' = s.hide h ∧ P s.cfg s.activeCommand s.hidden h

/-- The same input is taken, and what is left is alike. -/
def Fetched.Alike (P : Config → Option Code → Hidden → Hidden → Prop) : Fetched → Fetched → Prop
  | .reset t, .reset t' => t.Alike P t'
  | .word w u, .word w' u' => w = w' ∧ u.Alike P u'
  | .idle t, .idle t' => t.Alike P t'
  | _, _ => False

/-- Two outcomes are alike: next states that are, or one refusal. -/
def OutcomeAlike (P : Config → Option Code → Hidden → Hidden → Prop)
    (o o' : Host.Outcome State Fault Refusal) : Prop :=
  (∃ t t', o = .next t ∧ o' = .next t' ∧ t.Alike P t') ∨ ∃ r, o = .refused r ∧ o' = .refused r

section Stages

variable {P : Config → Option Code → Hidden → Hidden → Prop} {s s' : State}

/-! ## Stages that neither read nor write a hidden field -/

theorem State.Alike.begin (h : s.Alike P s') : s.begin.Alike P s'.begin := by
  obtain ⟨g, rfl, hP⟩ := h
  exact ⟨g, rfl, hP⟩

theorem State.Alike.respond (h : s.Alike P s') (w : RspWord) :
    (s.respond w).Alike P (s'.respond w) := by
  obtain ⟨g, rfl, hP⟩ := h
  exact ⟨g, rfl, hP⟩

theorem State.Alike.dispatch (h : s.Alike P s') : s.dispatch.Alike P s'.dispatch := by
  obtain ⟨g, rfl, hP⟩ := h
  exact ⟨g, rfl, hP⟩

theorem State.Alike.dispatchEvent (h : s.Alike P s') (a : Action) (c : Code) :
    (s.dispatchEvent a c).Alike P (s'.dispatchEvent a c) := by
  obtain ⟨g, rfl, hP⟩ := h
  exact ⟨g, rfl, hP⟩

theorem State.Alike.reloadWatch (h : s.Alike P s') : s.reloadWatch.Alike P s'.reloadWatch := by
  obtain ⟨g, rfl, hP⟩ := h
  exact ⟨g, rfl, hP⟩

theorem State.Alike.clearPressFlag (h : s.Alike P s') : s.clearPressFlag.Alike P s'.clearPressFlag := by
  obtain ⟨g, rfl, hP⟩ := h
  exact ⟨g, rfl, hP⟩

theorem State.Alike.setLatch (h : s.Alike P s') (d : Duration) :
    (s.setLatch d).Alike P (s'.setLatch d) := by
  obtain ⟨g, rfl, hP⟩ := h
  exact ⟨g, rfl, hP⟩

theorem State.Alike.register (h : s.Alike P s') (e : Entry) :
    (s.register e).Alike P (s'.register e) := by
  obtain ⟨g, rfl, hP⟩ := h
  have hroom : (s.hide g).hasRoom = s.hasRoom := rfl
  unfold State.register
  rw [hroom]
  split <;> exact ⟨g, rfl, hP⟩

theorem State.Alike.nextCycle (h : s.Alike P s') : s.nextCycle.Alike P s'.nextCycle := by
  have hcycles : s'.cycles = s.cycles := by obtain ⟨g, rfl, -⟩ := h; rfl
  have hnow : s'.now = s.now := by obtain ⟨g, rfl, -⟩ := h; rfl
  have htick : s.tick.Alike P s'.tick := by obtain ⟨g, rfl, hg⟩ := h; exact ⟨g, rfl, hg⟩
  unfold State.nextCycle
  rw [hcycles, hnow]
  cases s.cycles with
  | nil => exact htick
  | cons c rest =>
    dsimp only
    split
    · exact htick
    · obtain ⟨g, rfl, hg⟩ := h
      exact ⟨g, rfl, hg⟩

/-! ## Stages that write one -/

section Keeping

variable (hP : Unobservable P)

include hP

theorem State.Alike.resetFields (h : s.Alike P s') : s.resetFields.Alike P s'.resetFields := by
  obtain ⟨g, rfl, hg⟩ := h
  exact ⟨⟨0, 0, 0, 0⟩, rfl, hP.reset hg⟩

theorem State.Alike.configure (h : s.Alike P s') (v : Protocol) (p : Pin) :
    (s.configure v p).Alike P (s'.configure v p) := by
  obtain ⟨g, rfl, hg⟩ := h
  exact ⟨{ g with pin := p }, rfl, hP.connect hg p⟩

theorem State.Alike.syncPulse (h : s.Alike P s') (r : DecodeResult) :
    (s.syncPulse r).Alike P (s'.syncPulse r) := by
  obtain ⟨g, rfl, hg⟩ := h
  exact ⟨{ g with count := 0 }, rfl, hP.sync hg⟩

theorem State.Alike.pushBit (h : s.Alike P s') (b : Bool) : (s.pushBit b).Alike P (s'.pushBit b) := by
  obtain ⟨g, rfl, hg⟩ := h
  have hphase : (s.hide g).phase b = s.phase b := hP.phase hg s.protocol b
  have hcommand := hP.command hg s.protocol b
  have hpush := hP.push hg s.protocol b
  refine ⟨g.push s.cfg s.protocol b, ?_, ?_⟩
  · have hpushed : bitPhase s.cfg s.protocol (g.count + 1) b = s.phase b := hphase
    unfold State.pushBit Hidden.push
    rw [hphase, hpushed]
    cases hs : s.phase b with
    | cmdLast =>
      have hsame : (s.hide g).lastCommandBit b =
          ((s.lastCommandBit b).hide { g with count := g.count + 1, acc := shiftIn g.acc b }) := by
        simp only [State.lastCommandBit, State.hide, hcommand hs]
        rfl
      exact hsame
    | _ => rfl
  · have hhidden : (s.pushBit b).hidden = s.hidden.push s.cfg s.protocol b := by
      have hs : bitPhase s.cfg s.protocol (s.hidden.count + 1) b = s.phase b := rfl
      unfold State.pushBit Hidden.push
      rw [hs]
      cases s.phase b <;> rfl
    rwa [State.pushBit_cfg, State.pushBit_activeCommand, hhidden]

theorem State.Alike.decodePulsePair (h : s.Alike P s') (d : Duration) :
    (s.decodePulsePair d).Alike P (s'.decodePulsePair d) := by
  have hcfg : s'.cfg = s.cfg := by obtain ⟨g, rfl, -⟩ := h; rfl
  unfold State.decodePulsePair
  rw [hcfg]
  cases classify s.cfg d with
  | zero => exact h.pushBit hP false
  | one => exact h.pushBit hP true
  | _ => exact h.syncPulse hP _

theorem State.Alike.refreshDeadline (h : s.Alike P s') :
    s.refreshDeadline.Alike P s'.refreshDeadline := by
  obtain ⟨g, rfl, hg⟩ := h
  exact ⟨{ g with deadline := later s.now s.cfg.repeatTimeout }, rfl, hP.refresh hg _ _⟩

theorem State.Alike.newCommand (h : s.Alike P s') (c : Code) :
    (s.newCommand c).Alike P (s'.newCommand c) := by
  obtain ⟨g, rfl, hg⟩ := h
  have hkeep := hP.refresh hg (some c) (later s.now s.cfg.repeatTimeout)
  have hactive : (s.hide g).refreshDeadline.activeCommand = s.refreshDeadline.activeCommand := rfl
  unfold State.newCommand State.emitRelease
  rw [hactive]
  refine ⟨{ g with deadline := later s.now s.cfg.repeatTimeout }, ?_, ?_⟩
  · cases s.refreshDeadline.activeCommand <;> rfl
  · cases s.refreshDeadline.activeCommand <;> exact hkeep

theorem State.Alike.trackResult (h : s.Alike P s') (r : DecodeResult) :
    (s.trackResult r).Alike P (s'.trackResult r) := by
  have hactive : s'.activeCommand = s.activeCommand := by obtain ⟨g, rfl, -⟩ := h; rfl
  cases r with
  | incomplete => exact h
  | repeatCode => exact h.refreshDeadline hP
  | command c =>
    unfold State.trackResult State.trackCommand
    dsimp only
    rw [hactive]
    split
    exacts [h.refreshDeadline hP, h.newCommand hP c]

theorem State.Alike.track (h : s.Alike P s') : s.track.Alike P s'.track := by
  have hdres : s'.dres = s.dres := by obtain ⟨g, rfl, -⟩ := h; rfl
  cases hr : s.dres with
  | none => rwa [State.track, State.track, hdres, hr]
  | some r =>
    rw [State.track_of_dres hr, State.track_of_dres (hdres.trans hr)]
    exact h.trackResult hP r

theorem State.Alike.releaseIfTimedOut (h : s.Alike P s') :
    s.releaseIfTimedOut.Alike P s'.releaseIfTimedOut := by
  obtain ⟨g, rfl, hg⟩ := h
  have hactive : (s.hide g).activeCommand = s.activeCommand := rfl
  unfold State.releaseIfTimedOut State.timedOut State.emitRelease
  rw [hactive]
  cases ha : s.activeCommand with
  | none => exact ⟨g, rfl, hg⟩
  | some a =>
    have hdeadline : (s.hide g).repeatDeadline = s.repeatDeadline := hP.deadline (ha ▸ hg)
    have hnow : (s.hide g).now = s.now := rfl
    rw [hdeadline, hnow]
    split
    exacts [⟨g, rfl, hP.release hg⟩, ⟨g, rfl, hg⟩]

/-! ## One step -/

/-- The inputs of 43_connect_and_step.md R236 keep two states alike. -/
theorem State.Alike.execResult_input (h : s.Alike P s') {i : Instr} (hi : isStageCase i = false) :
    (execResult i s).Alike P (execResult i s') := by
  have hconn : s'.connected = s.connected := by obtain ⟨g, rfl, -⟩ := h; rfl
  have hlatch : s'.markLatch = s.markLatch := by obtain ⟨g, rfl, -⟩ := h; rfl
  have hlast : s'.lastReportedCommand = s.lastReportedCommand := by obtain ⟨g, rfl, -⟩ := h; rfl
  have hpress : s'.hasUnconsumedPress = s.hasUnconsumedPress := by obtain ⟨g, rfl, -⟩ := h; rfl
  cases i with
  | mark dur =>
    rw [execResult_mark, execResult_mark, hconn]
    split
    exacts [h.begin.setLatch dur, h.begin]
  | space dur =>
    rw [execResult_space, execResult_space, hconn, hlatch]
    split
    exacts [((h.begin.decodePulsePair hP _).track hP).dispatch, h.begin]
  | wchk =>
    rw [execResult_wchk, execResult_wchk, hconn]
    split
    exacts [(h.begin.releaseIfTimedOut hP).reloadWatch.dispatch, h.begin]
  | connect v p =>
    rw [execResult_connect, execResult_connect, hconn]
    split
    exacts [h.begin.respond 0, (h.begin.configure hP v p).respond 0]
  | onbtn => exact (h.begin.register _).respond 0
  | nop | reserved => exact h.begin.respond 0
  | last => rw [execResult_last, execResult_last, hlast]; exact h.begin.respond _
  | was => rw [execResult_was, execResult_was, hpress]; exact h.begin.clearPressFlag.respond _
  | _ => cases hi

theorem State.Alike.runWord_input (h : s.Alike P s') {w : BusWord} {i : Instr}
    (hi : ∀ k, decode k w = some i) (hstage : isStageCase i = false) :
    OutcomeAlike P (runWord w s) (runWord w s') := by
  unfold runWord
  rw [hi, hi]
  exact .inl ⟨_, _, exec_eq i s, exec_eq i s', h.execResult_input hP hstage⟩

/-- A word has the same meaning in two states that are alike. -/
theorem State.Alike.runWord (h : s.Alike P s') (w : BusWord) :
    OutcomeAlike P (runWord w s) (Machine.runWord w s') := by
  cases w with
  | pulse w =>
    obtain ⟨i, hi, hstage⟩ := decode_input s.select (.pulse w) rfl
    exact h.runWord_input hP (fun _ => hi) hstage
  | timer => exact h.runWord_input hP (fun _ => rfl) rfl
  | host w =>
    obtain ⟨i, hi, hstage⟩ := decode_input s.select (.host w) rfl
    exact h.runWord_input hP (fun _ => hi) hstage
  | sym d =>
    exact .inl ⟨_, _, exec_decodeSym s d, exec_decodeSym s' d, h.begin.decodePulsePair hP d⟩
  | bit b => exact .inl ⟨_, _, exec_decodeBit s b, exec_decodeBit s' b, h.begin.pushBit hP b⟩
  | dres w =>
    obtain ⟨r, hr⟩ | hnone := runWord_dres w
    · exact .inl ⟨_, _, hr s, hr s', h.begin.trackResult hP r⟩
    · exact .inr ⟨_, hnone s, hnone s'⟩
  | inv w =>
    obtain ⟨a, c, ha⟩ | hnone := runWord_inv w
    · exact .inl ⟨_, _, ha s, ha s', h.begin.dispatchEvent a c⟩
    · exact .inr ⟨_, hnone s, hnone s'⟩

/-- Two machines that are alike take the same input, and are alike once it is taken. -/
theorem State.Alike.fetch (h : s.Alike P s') : s.fetch.Alike P s'.fetch := by
  have hnext := h.nextCycle
  have hreset := h.resetFields hP
  obtain ⟨g, rfl, hg⟩ := h
  have hcycle : (s.hide g).cycle = s.cycle := rfl
  have hscript : (s.hide g).script = s.script := rfl
  have hdue : (s.hide g).watchFallsDue = s.watchFallsDue := rfl
  unfold State.fetch State.arbitrate
  rw [hcycle, hscript, hdue]
  split
  · exact hreset
  split
  · exact ⟨rfl, g, rfl, hg⟩
  split
  · exact ⟨rfl, g, rfl, hg⟩
  split
  · exact ⟨rfl, g, rfl, hg⟩
  split
  · exact ⟨rfl, g, rfl, hg⟩
  · exact hnext

theorem State.Alike.step (h : s.Alike P s') : OutcomeAlike P (step s) (step s') := by
  have hfetch := h.fetch hP
  unfold Machine.step
  cases hs : s.fetch <;> cases hs' : s'.fetch <;> rw [hs, hs'] at hfetch
  case reset.reset t t' => exact .inl ⟨t, t', rfl, rfl, hfetch⟩
  case idle.idle t t' => exact .inl ⟨t, t', rfl, rfl, hfetch⟩
  case word.word w u w' u' =>
    obtain ⟨rfl, hu⟩ := hfetch
    exact hu.runWord hP w
  all_goals cases hfetch

/-! ## A run -/

/-- Machines that are alike put out the same records, responses and events, for ever. -/
theorem State.Alike.along (k : Nat) (h : s.Alike P s') :
    s'.outputsAlong k = s.outputsAlong k ∧ s'.eventsAlong k = s.eventsAlong k := by
  induction k generalizing s s' with
  | zero => exact ⟨rfl, rfl⟩
  | succ k ih =>
    unfold State.outputsAlong State.eventsAlong
    obtain ⟨t, t', ht, ht', halike⟩ | ⟨r, hr, hr'⟩ := h.step hP
    · obtain ⟨houtputs, hevents⟩ := ih halike
      obtain ⟨g, rfl, -⟩ := halike
      rw [ht, ht']
      exact ⟨congrArg _ houtputs, congrArg _ hevents⟩
    · rw [hr, hr']
      exact ⟨rfl, rfl⟩

end Keeping
end Stages

/-! ## What is unobservable -/

/-- The accumulators agree on the bits that the command in hand has shifted in (40_frame_decoder.md R150):
bits 0 to `n - 17` at counts 17 to 23, none elsewhere. -/
def AccAgree (n : Nat) (x y : Code) : Prop := n ≤ 23 → ∀ i, i + 16 < n → y.getLsbD i = x.getLsbD i

/-- The pin may differ; the deadline with no command active; the accumulator in what is yet to be shifted
out of it. -/
def Unread (c : Config) (a : Option Code) (g h : Hidden) : Prop :=
  h.count = g.count ∧ (a ≠ none → h.deadline = g.deadline) ∧
    (h.acc = g.acc ∨ c = Config.irdec ∧ AccAgree g.count g.acc h.acc)

/-- Once shifted, accumulators that agreed at the count before agree at bits 0 to `n - 17`. -/
theorem AccAgree.shifted {n : Nat} {x y : Code} (h : AccAgree n x y) (hn : n ≤ 23) (b : Bool) (i : Nat)
    (hi : i + 16 < n + 1) : (shiftIn y b).getLsbD i = (shiftIn x b).getLsbD i := by
  rw [shiftIn_getLsbD, shiftIn_getLsbD]
  cases i with
  | zero => rfl
  | succ i => rw [if_neg (by omega), if_neg (by omega), Nat.add_sub_cancel, h hn i (by omega)]

/-- After a data bit the counts are equal again and the accumulators still agree. -/
theorem AccAgree.push {g h : Hidden} (hcount : h.count = g.count) (hacc : AccAgree g.count g.acc h.acc)
    (p : Protocol) (b : Bool) :
    AccAgree (g.push Config.irdec p b).count (g.push Config.irdec p b).acc
      (h.push Config.irdec p b).acc := by
  have hphase := bitPhase_irdec p (g.count + 1) b
  unfold Hidden.push
  rw [hcount]
  split_ifs at hphase with h8 hone h16 h24 hlast <;> rw [hphase] <;> intro hle i hi
  case pos => exact absurd hi (by simp [Config.irdec])
  case neg => exact absurd hi (by simp only; omega)
  case pos => exact absurd hi (by simp only; omega)
  case pos => exact hacc.shifted (by omega) b i hi
  case pos => exact absurd hle (by simp only; omega)
  case neg => exact absurd hle (by simp only; omega)

/-- All the bits of the command are shifted in when it is complete: both accumulators give the same. -/
theorem AccAgree.command {x y : Code} (h : AccAgree 23 x y) (b : Bool) : shiftIn y b = shiftIn x b :=
  BitVec.eq_of_getLsbD_eq fun i hi => h.shifted le_rfl b i (by omega)

section Push

variable {g h : Hidden} (c : Config) (p : Protocol) (b : Bool)

theorem Hidden.push_pin : (h.push c p b).pin = h.pin := by
  unfold Hidden.push
  split <;> rfl

theorem Hidden.push_deadline : (h.push c p b).deadline = h.deadline := by
  unfold Hidden.push
  split <;> rfl

theorem Hidden.push_count_congr (hcount : h.count = g.count) :
    (h.push c p b).count = (g.push c p b).count := by
  unfold Hidden.push
  rw [hcount]
  cases bitPhase c p (g.count + 1) b <;> rfl

theorem Hidden.push_acc_congr (hphase : bitPhase c p (h.count + 1) b = bitPhase c p (g.count + 1) b)
    (hacc : h.acc = g.acc) : (h.push c p b).acc = (g.push c p b).acc := by
  unfold Hidden.push
  rw [hphase, hacc]
  cases bitPhase c p (g.count + 1) b <;> rfl

end Push

theorem unread_unobservable : Unobservable Unread where
  phase := fun ⟨hcount, _, _⟩ p b => by rw [hcount]
  command := fun ⟨_, _, hacc⟩ p b hlast => by
    obtain hacc | ⟨rfl, hacc⟩ := hacc
    · rw [hacc]
    · obtain h23 := Nat.succ.inj ((bitPhase_eq_cmdLast_iff _ _ _).mp hlast)
      rw [h23] at hacc
      exact hacc.command b
  deadline := fun ⟨_, hdeadline, _⟩ => hdeadline nofun
  push := fun {c a g h} ⟨hcount, hdeadline, hacc⟩ p b => by
    refine ⟨Hidden.push_count_congr c p b hcount, ?_, ?_⟩
    · rwa [Hidden.push_deadline, Hidden.push_deadline]
    · obtain hacc | ⟨rfl, hacc⟩ := hacc
      · exact .inl (Hidden.push_acc_congr c p b (by rw [hcount]) hacc)
      · exact .inr ⟨rfl, hacc.push hcount p b⟩
  sync := fun ⟨_, hdeadline, hacc⟩ =>
    ⟨rfl, hdeadline, hacc.imp id fun ⟨hc, _⟩ => ⟨hc, fun _ _ hi => absurd hi (Nat.not_lt_zero _)⟩⟩
  refresh := fun ⟨hcount, _, hacc⟩ _ _ => ⟨hcount, fun _ => rfl, hacc⟩
  release := fun ⟨hcount, _, hacc⟩ => ⟨hcount, fun hnone => absurd rfl hnone, hacc⟩
  connect := fun ⟨hcount, hdeadline, hacc⟩ _ => ⟨hcount, hdeadline, hacc⟩
  reset := fun _ => ⟨rfl, fun _ => rfl, .inl rfl⟩

/-- Settles O58: the pin selector is a hidden field under no condition. -/
theorem pinSelectorIsNeverRead : Obligations.PinSelectorIsNeverRead := by
  unfold Obligations.PinSelectorIsNeverRead
  intro k s p
  have halike : s.Alike Unread { s with pinSel := p } :=
    ⟨{ s.hidden with pin := p }, rfl, rfl, fun _ => rfl, .inl rfl⟩
  exact (halike.along unread_unobservable k).1

/-- Settles O42: with no command active the deadline is a hidden field. -/
theorem spuriousRepeatIsUnobservable : Obligations.SpuriousRepeatIsUnobservable := by
  unfold Obligations.SpuriousRepeatIsUnobservable
  intro k s x hnone
  have halike : s.Alike Unread { s with repeatDeadline := x } :=
    ⟨{ s.hidden with deadline := x }, rfl, rfl, fun hactive => absurd hnone hactive, .inl rfl⟩
  exact halike.along unread_unobservable k

/-- Settles O59: outside counts 17 to 23 the accumulator is a hidden field. -/
theorem accumulatorIsUnobservable : Obligations.AccumulatorIsUnobservable := by
  unfold Obligations.AccumulatorIsUnobservable
  intro k s acc hcfg hcount
  have hagree : AccAgree s.bitsReceived s.commandAccumulator acc := fun hle i hi => by omega
  have halike : s.Alike Unread { s with commandAccumulator := acc } :=
    ⟨{ s.hidden with acc := acc }, rfl, rfl, fun _ => rfl, .inr ⟨hcfg, hagree⟩⟩
  exact (halike.along unread_unobservable k).1

/-! ## The saturating counter (10_state.md R23, 92_eei_decisions.md D4) -/

/-- At this spec's parameters, all hidden fields but the count are equal, and the counts are at most in what
stands above 63. -/
def SaturatedAlike (c : Config) (_ : Option Code) (g h : Hidden) : Prop :=
  c = Config.irdec ∧ min h.count 63 = min g.count 63 ∧ h.pin = g.pin ∧ h.acc = g.acc ∧
    h.deadline = g.deadline

/-- Counts that differ above 63 alone select the same case: beyond 24 every bit is ignored (R148). -/
theorem bitPhase_congr_of_saturated {m n : Nat} (h : min m 63 = min n 63) (p : Protocol) (b : Bool) :
    bitPhase Config.irdec p (m + 1) b = bitPhase Config.irdec p (n + 1) b := by
  by_cases heq : m = n
  · rw [heq]
  · rw [bitPhase_invCmd (by omega), bitPhase_invCmd (by omega)]

/-- A data bit leaves counts that differ above 63 alone. -/
theorem Hidden.push_count_of_saturated {g h : Hidden} (hsat : min h.count 63 = min g.count 63)
    (p : Protocol) (b : Bool) :
    min (h.push Config.irdec p b).count 63 = min (g.push Config.irdec p b).count 63 := by
  by_cases hcount : h.count = g.count
  · rw [Hidden.push_count_congr _ p b hcount]
  · unfold Hidden.push
    rw [bitPhase_invCmd (by omega), bitPhase_invCmd (by omega)]
    dsimp only
    omega

theorem saturatedAlike_unobservable : Unobservable SaturatedAlike where
  phase := fun ⟨hcfg, hcount, _⟩ p b => by rw [hcfg, bitPhase_congr_of_saturated hcount]
  command := fun ⟨_, _, _, hacc, _⟩ p b _ => by rw [hacc]
  deadline := fun ⟨_, _, _, _, hdeadline⟩ => hdeadline
  push := fun ⟨hcfg, hcount, hpin, hacc, hdeadline⟩ p b => by
    subst hcfg
    refine ⟨rfl, Hidden.push_count_of_saturated hcount p b, ?_, ?_, ?_⟩
    · rwa [Hidden.push_pin, Hidden.push_pin]
    · exact Hidden.push_acc_congr _ p b (bitPhase_congr_of_saturated hcount p b) hacc
    · rwa [Hidden.push_deadline, Hidden.push_deadline]
  sync := fun ⟨hcfg, _, hrest⟩ => ⟨hcfg, rfl, hrest⟩
  refresh := fun ⟨hcfg, hcount, hpin, hacc, _⟩ _ _ => ⟨hcfg, hcount, hpin, hacc, rfl⟩
  release := id
  connect := fun ⟨hcfg, hcount, _, hrest⟩ _ => ⟨hcfg, hcount, rfl, hrest⟩
  reset := fun ⟨hcfg, _⟩ => ⟨hcfg, rfl, rfl, rfl, rfl⟩

/-- Settles O60: the saturated state is alike, and so is what a step makes of it. -/
theorem saturatingCounterIsEquivalent : Obligations.SaturatingCounterIsEquivalent := by
  unfold Obligations.SaturatingCounterIsEquivalent
  intro s t hcfg hstep
  have halike : s.Alike SaturatedAlike s.saturated :=
    ⟨{ s.hidden with count := min s.bitsReceived 63 }, rfl, hcfg, by simp [State.hidden], rfl, rfl, rfl⟩
  obtain ⟨t', u, ht, hu, h, rfl, -, hcount, hpin, hacc, hdeadline⟩ | ⟨r, hr, -⟩ :=
    halike.step saturatedAlike_unobservable
  · obtain rfl : t' = t := Host.Outcome.next.inj (ht.symm.trans hstep)
    refine ⟨_, hu, ?_⟩
    simp only [State.saturated, State.hide, hcount, hpin, hacc, hdeadline, State.hidden]
  · rw [hr] at hstep
    cases hstep

end Sys2Proof.Machine
end

section
/-!
Frames joined in the middle (40_frame_decoder.md R151): which pairs of a truncated frame the decoder takes
for a command. In ZA a 1 of what it takes for an address moves the count to 9; in GA nothing does.
-/

namespace Sys2Proof.Machine

/-! ## The bits of a truncated frame -/

/-- A frame of address 0 begins with eight zeros and their complement. -/
theorem frameBits_zero (c : Code) :
    frameBits 0 c =
      List.replicate 8 false ++ (List.replicate 8 true ++ (byteBits c ++ byteBits (255 - c))) := by
  have haddr : byteBits 0 = List.replicate 8 false := by decide
  have hinv : byteBits (255 - 0) = List.replicate 8 true := by decide
  rw [frameBits, haddr, hinv, List.append_assoc, List.append_assoc]

theorem frameBits_zero_drop_address (c : Code) {k : Nat} (hk : k ≤ 8) :
    (frameBits 0 c).drop k =
      List.replicate (8 - k) false ++ (List.replicate 8 true ++ (byteBits c ++ byteBits (255 - c))) := by
  rw [frameBits_zero, List.drop_append_of_le_length (by simpa using hk), List.drop_replicate]

theorem frameBits_zero_drop_inverse (c : Code) {k : Nat} (lo : 8 ≤ k) (hi : k ≤ 16) :
    (frameBits 0 c).drop k = List.replicate (16 - k) true ++ (byteBits c ++ byteBits (255 - c)) := by
  obtain ⟨j, rfl⟩ := Nat.exists_eq_add_of_le lo
  rw [← List.drop_drop, frameBits_zero_drop_address c le_rfl]
  change List.drop j (List.replicate 8 true ++ _) = _
  rw [List.drop_append_of_le_length (by rw [List.length_replicate]; omega), List.drop_replicate,
    Nat.sub_add_eq]

theorem frameBits_length (a c : Code) : (frameBits a c).length = 32 := rfl

/-- Eight bits are those of a code. -/
theorem exists_byteBits {bs : List Bool} (h : bs.length = 8) : ∃ c : Code, byteBits c = bs := by
  match bs, h with
  | [b7, b6, b5, b4, b3, b2, b1, b0], _ =>
    refine ⟨[b7, b6, b5, b4, b3, b2, b1, b0].foldl shiftIn 0, ?_⟩
    simp [byteBits, shiftIn_getLsbD, -BitVec.getLsbD_eq_getElem]

/-- A list that is long enough, cut after `m` bits and after the byte that follows them. -/
theorem exists_byte_of_drop {bs : List Bool} {k m : Nat} (h : k + m + 8 ≤ bs.length) :
    ∃ code : Code, byteBits code = (bs.drop (k + m)).take 8 ∧
      bs.drop k = (bs.drop k).take m ++ (byteBits code ++ bs.drop (k + m + 8)) := by
  obtain ⟨code, hcode⟩ := exists_byteBits (bs := (bs.drop (k + m)).take 8)
    (by rw [List.length_take, List.length_drop]; omega)
  refine ⟨code, hcode, ?_⟩
  have hafter : bs.drop (k + m + 8) = ((bs.drop k).drop m).drop 8 := by
    rw [List.drop_drop, List.drop_drop, Nat.add_assoc]
  have hbyte : bs.drop (k + m) = (bs.drop k).drop m := by rw [List.drop_drop]
  rw [hcode, hafter, hbyte, List.take_append_drop, List.take_append_drop]

/-! ## Runs that begin anywhere -/

section Joined

variable {s : State} {p : Protocol} {n : Nat} {acc c : Code} {ps : List Pair} {bs : List Bool}

/-- A 1 in the address region of ZA moves the count to 9 (R143). -/
theorem State.Listening.afterPair_resync {q : Pair} (h : s.Listening .za n acc)
    (hq : pairClass Config.irdec q = bitClass true) (hi : n + 1 ≤ 8) :
    (s.afterPair q).Listening .za 9 acc ∧ (s.afterPair q).dres = some .incomplete := by
  have hl := h.latched q.1
  have hu : (s.latched q.1).pushBit true = (s.latched q.1).resyncCount := by
    rw [State.pushBit, hl.phase, bitPhase_resync hi]
  have hnext := h.afterPair_bit hq hu
  have hnine : (s.latched q.1).cfg.resyncTo = 9 := by rw [hl.cfg]; rfl
  rwa [State.resyncCount_bitsReceived, hnine, State.resyncCount_commandAccumulator,
    hl.accumulator] at hnext

/-- A 0 of the address region is only counted, in either variant (R142). -/
theorem isIgnored_zero {k : Nat} (hk : k ≤ 8) : isIgnored (bitPhase Config.irdec p k false) = true := by
  rw [bitPhase_addr hk (fun h => Bool.false_ne_true h.2)]
  rfl

/-- Bits that end before the command are only counted, once no 1 can fire the heuristic (R144). -/
theorem State.Listening.hears_beforeCommand (h : s.Listening p n acc) (hps : Carries ps bs)
    (lo : p = .ga ∨ 8 ≤ n) (hi : n + bs.length ≤ 16) :
    ∃ t, s.Hears ps (List.replicate bs.length .incomplete) t ∧ t.Listening p (n + bs.length) acc := by
  refine h.hears_ignored hps fun b _ k hlo hhi => ?_
  by_cases hk : k ≤ 8
  · have hga : ¬(p = .za ∧ b = true) := by
      obtain rfl | h8 := lo
      · exact nofun
      · omega
    rw [bitPhase_addr hk hga]; rfl
  · rw [bitPhase_invAddr (by omega) (by omega)]; rfl

/-- Bits after the command are only counted (R148). -/
theorem State.Listening.hears_afterCommand (h : s.Listening p 24 acc) (hps : Carries ps bs) :
    ∃ t, s.Hears ps (List.replicate bs.length .incomplete) t ∧ t.Listening p (24 + bs.length) acc :=
  h.hears_ignored hps fun b _ k hlo _ => by rw [bitPhase_invCmd hlo]; rfl

/-- The byte at counts 17 to 24 is the command, with whatever bits come before and after it. -/
theorem State.Listening.results_of_byte {xs ys : List Bool} (h : s.Listening p n acc)
    (hps : Carries ps (xs ++ (byteBits c ++ ys))) (lo : p = .ga ∨ 8 ≤ n) (hn : n + xs.length = 16) :
    ∃ t, s.Hears ps
      (List.replicate xs.length .incomplete ++ (List.replicate 7 .incomplete ++ [.command c] ++
        List.replicate ys.length .incomplete)) t := by
  obtain ⟨qs, qs', rfl, hxs, hrest⟩ := hps.append_inv
  obtain ⟨cmdPairs, endPairs, rfl, hcmd, hys⟩ := hrest.append_inv
  obtain ⟨s16, hears16, hl16⟩ := h.hears_beforeCommand hxs lo hn.le
  obtain ⟨s24, hears24, hl24⟩ := State.Listening.hears_commandByte (hn ▸ hl16) hcmd
  obtain ⟨t, hend, -⟩ := hl24.hears_afterCommand hys
  exact ⟨t, hears16.append (hears24.append hend)⟩

/-- In ZA a 1 of the address region is taken for the first of eight bits of an inverse address. -/
theorem State.Listening.results_of_resync {xs ys : List Bool} (h : s.Listening .za n acc)
    (hps : Carries ps (true :: (xs ++ (byteBits c ++ ys)))) (hi : n + 1 ≤ 8) (hxs : xs.length = 7) :
    ∃ t, s.Hears ps
      (List.replicate 15 .incomplete ++ [.command c] ++ List.replicate ys.length .incomplete) t := by
  obtain ⟨q, qs, rfl, hq, hqs⟩ := hps.cons_inv
  obtain ⟨hnine, hr⟩ := h.afterPair_resync hq hi
  obtain ⟨t, ht⟩ := hnine.results_of_byte hqs (.inr (by omega)) (by omega)
  rw [hxs] at ht
  exact ⟨t, .cons hr ht⟩

/-- The count from which a command is furthest away: in ZA a 1 of the address region skips ahead to it. -/
def reach (p : Protocol) (n : Nat) : Nat :=
  match p with
  | .ga => n
  | .za => max n 8

/-- A bit before count 24 gives no command, and brings it one bit nearer at most. -/
theorem State.Listening.afterPair_early {q : Pair} {b : Bool} (h : s.Listening p n acc)
    (hq : pairClass Config.irdec q = bitClass b) (hi : n + 1 ≤ 23) :
    ∃ n' acc', (s.afterPair q).Listening p n' acc' ∧ reach p n' ≤ reach p n + 1 ∧
      (s.afterPair q).dres = some .incomplete := by
  have hcounted : reach p (n + 1) ≤ reach p n + 1 := by cases p <;> simp only [reach] <;> omega
  have ignored (hb : isIgnored (bitPhase Config.irdec p (n + 1) b) = true) :
      ∃ n' acc', (s.afterPair q).Listening p n' acc' ∧ reach p n' ≤ reach p n + 1 ∧
        (s.afterPair q).dres = some .incomplete := by
    obtain ⟨hl, hr⟩ := h.afterPair_ignored hq hb
    exact ⟨_, _, hl, hcounted, hr⟩
  by_cases h8 : n + 1 ≤ 8
  · by_cases hfires : p = .za ∧ b = true
    · obtain ⟨rfl, rfl⟩ := hfires
      obtain ⟨hl, hr⟩ := h.afterPair_resync hq h8
      exact ⟨_, _, hl, by simp only [reach]; omega, hr⟩
    · exact ignored (by rw [bitPhase_addr h8 hfires]; rfl)
  by_cases h16 : n + 1 ≤ 16
  · exact ignored (by rw [bitPhase_invAddr (by omega) h16]; rfl)
  · obtain ⟨hl, hr⟩ := h.afterPair_command hq (by omega) hi
    exact ⟨_, _, hl, hcounted, hr⟩

/-- Too few bits to reach count 24 give no command. -/
theorem State.Listening.hears_early (h : s.Listening p n acc) (hps : Carries ps bs)
    (hfew : reach p n + bs.length ≤ 23) :
    ∃ t, s.Hears ps (List.replicate bs.length .incomplete) t := by
  induction bs generalizing s n acc ps with
  | nil => exact hps.nil_inv ▸ ⟨s, .nil s⟩
  | cons b bs ih =>
    rw [List.length_cons] at hfew
    obtain ⟨q, qs, rfl, hq, hqs⟩ := hps.cons_inv
    have hn : n ≤ reach p n := by cases p <;> simp only [reach] <;> omega
    obtain ⟨n', acc', hnext, hreach, hr⟩ := h.afterPair_early hq (by omega)
    obtain ⟨t, ht⟩ := ih hnext hqs (by omega)
    exact ⟨t, .cons hr ht⟩

end Joined

/-! ## The rows of R151 -/

/-- Settles O31: the zeros left of the address are counted, the first bit of the inverse address fires the
heuristic, and the command byte then stands where it should. -/
theorem zeroAddressVariantRecoversMidFrame : Obligations.ZeroAddressVariantRecoversMidFrame := by
  unfold Obligations.ZeroAddressVariantRecoversMidFrame
  intro s c k ps hcfg hconn hza hcount hk1 hk8 hps
  have hl : s.Listening .za 0 s.commandAccumulator := ⟨hcfg, hconn, hza, hcount, rfl⟩
  rw [hcfg, frameBits_zero_drop_address c hk8] at hps
  obtain ⟨zeroPairs, qs, rfl, hzeros, hqs⟩ := Carries.append_inv hps
  obtain ⟨u, hearsZeros, hu⟩ := hl.hears_ignored hzeros fun b hb j _ hj => by
    rw [List.length_replicate] at hj
    rw [List.eq_of_mem_replicate hb]
    exact isIgnored_zero (by omega)
  obtain ⟨t, hrest⟩ := State.Listening.results_of_resync (xs := List.replicate 7 true) hu hqs
    (by rw [List.length_replicate]; omega) (List.length_replicate ..)
  obtain ⟨hresults, -⟩ := hearsZeros.append hrest
  rw [hresults, List.length_replicate, show 23 - k = 8 - k + 15 by omega, List.replicate_add]
  simp only [List.append_assoc]
  rfl

/-- Settles O32. With some of the inverse address left its first 1 fires the heuristic, and the byte eight
bits on is taken for the command; with none left the command byte itself decides; with fewer than 16 bits
count 24 is out of reach. -/
theorem zeroAddressVariantMisreadsFromNinePairsOn :
    Obligations.ZeroAddressVariantMisreadsFromNinePairsOn := by
  unfold Obligations.ZeroAddressVariantMisreadsFromNinePairsOn
  intro s c k ps hcfg hconn hza hcount hps
  have hl : s.Listening .za 0 s.commandAccumulator := ⟨hcfg, hconn, hza, hcount, rfl⟩
  rw [hcfg] at hps
  refine ⟨fun hk9 hk15 => ?_, fun hk hone => ?_, fun hk hzero => ?_, fun hk17 hk31 => ?_⟩
  · have hfirst : (frameBits 0 c).drop k = true :: (frameBits 0 c).drop (k + 1) := by
      rw [frameBits_zero_drop_inverse c (by omega) (by omega),
        frameBits_zero_drop_inverse c (by omega) (by omega), show 16 - k = 16 - (k + 1) + 1 by omega]
      rfl
    obtain ⟨code, hcode, hcut⟩ := exists_byte_of_drop (bs := frameBits 0 c) (k := k + 1) (m := 7)
      (by rw [frameBits_length]; omega)
    rw [hfirst, hcut] at hps
    obtain ⟨t, hresults, -⟩ := hl.results_of_resync hps (by omega)
      (by rw [List.length_take, List.length_drop, frameBits_length]; omega)
    refine ⟨code, hcode, ?_⟩
    rwa [List.length_drop, frameBits_length, show 32 - (k + 1 + 7 + 8) = 16 - k by omega] at hresults
  · subst hk
    rw [frameBits_zero_drop_inverse c (by omega) le_rfl] at hps
    have hbits : byteBits c = true :: (byteBits c).tail := by rw [byteBits, hone]; rfl
    have hps' : Carries ps (true :: ((byteBits c).tail ++ (byteBits (255 - c) ++ []))) := by
      rw [List.append_nil, ← List.cons_append, ← hbits]
      exact hps
    obtain ⟨t, hresults, -⟩ := hl.results_of_resync hps' (by omega) rfl
    rwa [List.length_nil, List.replicate_zero, List.append_nil] at hresults
  · subst hk
    rw [frameBits_zero_drop_inverse c (by omega) le_rfl] at hps
    have hbits : byteBits c = false :: (byteBits c).tail := by rw [byteBits, hzero]; rfl
    have hps' : Carries ps (false :: ((byteBits c).tail ++ byteBits (255 - c))) := by
      rw [← List.cons_append, ← hbits]
      exact hps
    obtain ⟨q, qs, rfl, hq, hqs⟩ := hps'.cons_inv
    obtain ⟨hnext, hr⟩ := hl.afterPair_ignored hq (isIgnored_zero (by omega))
    obtain ⟨t, ht⟩ := hnext.hears_early hqs (by decide : 8 + 15 ≤ 23)
    exact (State.Hears.cons hr ht).1
  · have hlen : ((frameBits 0 c).drop k).length = 32 - k := by
      rw [List.length_drop, frameBits_length]
    obtain ⟨t, hresults, -⟩ := hl.hears_early hps (by rw [hlen, reach]; omega)
    rwa [hlen] at hresults

/-- Settles O33: GA counts straight on, so the byte after 16 bits is taken for the command. -/
theorem generalVariantMisreadsMidFrame : Obligations.GeneralVariantMisreadsMidFrame := by
  unfold Obligations.GeneralVariantMisreadsMidFrame
  intro s a c k ps hcfg hconn hga hcount hps
  have hl : s.Listening .ga 0 s.commandAccumulator := ⟨hcfg, hconn, hga, hcount, rfl⟩
  rw [hcfg] at hps
  refine ⟨fun hk1 hk8 => ?_, fun hk9 hk31 => ?_⟩
  · obtain ⟨code, hcode, hcut⟩ := exists_byte_of_drop (bs := frameBits a c) (k := k) (m := 16)
      (by rw [frameBits_length]; omega)
    have hlen : (((frameBits a c).drop k).take 16).length = 16 := by
      rw [List.length_take, List.length_drop, frameBits_length]; omega
    rw [hcut] at hps
    obtain ⟨t, hresults, -⟩ := hl.results_of_byte hps (.inl rfl) (by rw [hlen])
    refine ⟨code, by rw [hcode, Nat.add_comm], ?_⟩
    rw [hresults, hlen, List.length_drop, frameBits_length, show 32 - (k + 16 + 8) = 8 - k by omega]
    rfl
  · have hlen : ((frameBits a c).drop k).length = 32 - k := by
      rw [List.length_drop, frameBits_length]
    obtain ⟨t, hresults, -⟩ := hl.hears_early hps (by rw [hlen, reach]; omega)
    rwa [hlen] at hresults

end Sys2Proof.Machine
end

section
/-!
The Command Tracker and its watcher, operation by operation (41_command_tracker.md R173 to R178), and what
follows for a run: events alternate (R184), WAS is true once per press (42_event_dispatch.md R210), and a
refresh holds off the release (20_memory.md R71).
-/

namespace Sys2Proof.Machine

/-! ## TRK, one result at a time -/

/-- Everything a new command writes (R173). -/
theorem State.newCommand_eq (s : State) (c : Code) :
    s.newCommand c = { s with
      repeatDeadline := later s.now s.cfg.repeatTimeout
      activeCommand := some c
      hasUnconsumedPress := true
      lastReportedCommand := some c
      events := s.events ++ s.activeCommand.toList.map (fun a => ⟨.released, a⟩) ++ [⟨.pressed, c⟩] } := by
  apply State.ext <;> simp [State.newCommand_events]

theorem exec_trkCmdnew {s : State} {c : Code} (h : s.activeCommand ≠ some c) :
    exec (.trkCmdnew c) s = .next (s.begin.newCommand c) := if_neg h

theorem exec_trkCmdsame {s : State} {c : Code} (h : s.activeCommand = some c) :
    exec (.trkCmdsame c) s = .next s.begin.refreshDeadline := if_pos h

/-- Settles O34, by whether another command was active. -/
theorem newCommandDisplacesTheActiveOne : Obligations.NewCommandDisplacesTheActiveOne := by
  unfold Obligations.NewCommandDisplacesTheActiveOne
  intro c s h
  rw [exec_trkCmdnew h, State.newCommand_eq, State.begin_activeCommand]
  cases s.activeCommand <;> rfl

/-- Settles O35: both are a `refreshDeadline`. -/
theorem repetitionOnlyRefreshesTheDeadline : Obligations.RepetitionOnlyRefreshesTheDeadline := by
  unfold Obligations.RepetitionOnlyRefreshesTheDeadline
  intro s
  exact ⟨fun c h => exec_trkCmdsame h, rfl⟩

/-! ## WDT: one check (R178, R180 c) -/

theorem State.releaseIfTimedOut_of_past {s : State} {a : Code} (ha : s.activeCommand = some a)
    (hpast : s.repeatDeadline.toNat < s.now.toNat) :
    s.releaseIfTimedOut =
      { s with events := s.events ++ [⟨.released, a⟩], activeCommand := none } := by
  obtain ⟨b, hb, -, h⟩ | ⟨hkept, -⟩ := s.releaseIfTimedOut_cases
  · obtain rfl : a = b := Option.some.inj (ha.symm.trans hb)
    exact h
  · obtain hnone | hle := hkept
    · rw [ha] at hnone; cases hnone
    · omega

theorem State.releaseIfTimedOut_of_kept {s : State}
    (hkept : s.activeCommand ≠ none → s.now.toNat ≤ s.repeatDeadline.toNat) :
    s.releaseIfTimedOut = s := by
  obtain ⟨b, hb, hpast, -⟩ | ⟨-, h⟩ := s.releaseIfTimedOut_cases
  · have := hkept (by rw [hb]; nofun)
    omega
  · exact h

/-- The state after a check that releases nothing. -/
theorem execResult_wchk_of_kept {s : State} (hconn : s.connected = true)
    (hkept : s.activeCommand ≠ none → s.now.toNat ≤ s.repeatDeadline.toNat) :
    execResult .wchk s = { s.begin with watchDue := later s.now s.watchPeriod } := by
  rw [execResult_wchk, if_pos hconn, State.releaseIfTimedOut_of_kept (s := s.begin) hkept]
  rfl

/-- A check before the deadline, or before the first CONNECT, is silent. -/
theorem execResult_wchk_silent {s : State}
    (hkept : s.activeCommand ≠ none → s.now.toNat ≤ s.repeatDeadline.toNat) :
    (execResult .wchk s).events = [] ∧ (execResult .wchk s).out = [] ∧
      (execResult .wchk s).activeCommand = s.activeCommand := by
  cases hconn : s.connected with
  | false => rw [execResult_wchk, hconn]; exact ⟨rfl, rfl, rfl⟩
  | true => rw [execResult_wchk_of_kept hconn hkept]; exact ⟨rfl, rfl, rfl⟩

/-- The state after a check that releases `a`. -/
theorem execResult_wchk_of_past {s : State} {a : Code} (hconn : s.connected = true)
    (ha : s.activeCommand = some a) (hpast : s.repeatDeadline.toNat < s.now.toNat) :
    execResult .wchk s =
      { s.begin with
        activeCommand := none
        watchDue := later s.now s.cfg.watchIdle
        events := [⟨.released, a⟩]
        out := dispatchOne s.cfg.handlerOrder s.handlers .released a } := by
  rw [execResult_wchk, if_pos hconn, State.releaseIfTimedOut_of_past (s := s.begin) ha hpast]
  unfold State.dispatch
  rw [State.reloadWatch_events, State.begin_events, List.nil_append, dispatchAll_cons, dispatchAll_nil,
    List.append_nil]
  rfl

/-- The watcher sleeps short while a command is active, and long while none is. -/
theorem State.watchPeriod_eq (s : State) :
    (s.activeCommand = none → s.watchPeriod = s.cfg.watchIdle) ∧
      (∀ a, s.activeCommand = some a → s.watchPeriod = s.cfg.watchActive) :=
  ⟨fun h => if_pos h, fun a h => if_neg (by rw [h]; nofun)⟩

/-- Settles O37, by whether a command is active and past its deadline. -/
theorem watcherReleasesPastTheDeadline : Obligations.WatcherReleasesPastTheDeadline := by
  unfold Obligations.WatcherReleasesPastTheDeadline
  intro s
  simp only [exec_eq]
  refine ⟨fun a hconn ha hpast => ?_, fun a hconn ha hle => ?_, fun hconn hnone => ?_, fun hconn => ?_⟩
  · rw [execResult_wchk_of_past hconn ha hpast]; rfl
  · rw [execResult_wchk_of_kept hconn fun _ => hle, s.watchPeriod_eq.2 a ha]; rfl
  · rw [execResult_wchk_of_kept hconn fun h => absurd hnone h, s.watchPeriod_eq.1 hnone]; rfl
  · rw [execResult_wchk, hconn]; rfl

/-! ## Events alternate (R184) -/

theorem alternates_append (held : Option Code) (es es' : List Event) :
    alternates held (es ++ es') = (alternates held es && alternates (heldAfter held es) es') := by
  induction es generalizing held with
  | nil => rfl
  | cons e es ih =>
    obtain ⟨a, c⟩ := e
    cases held <;> cases a <;> simp [alternates, heldAfter, ih, Bool.and_assoc]

/-- The events of a move fit the button that is down before it. -/
theorem TrackerMove.alternates {a l a' l' : Option Code} {es : List Event}
    (h : TrackerMove a l a' l' es) : alternates a es = true := by
  cases h with
  | keep => rfl
  | release c hc => simp [hc, Machine.alternates]
  | press c _ => cases a <;> simp [Machine.alternates]

/-- Settles O39, by induction on the steps: each is a move of the tracker, and leaves down the button that
its events say. -/
theorem eventsOfARunAlternate : Obligations.EventsOfARunAlternate := by
  unfold Obligations.EventsOfARunAlternate
  intro k
  induction k with
  | zero => intro s _; rfl
  | succ k ih =>
    intro s hs
    cases hstep : step s with
    | next t =>
      have hmove := step_moves hs.1 hstep
      rw [State.eventsAlong_succ hstep, alternates_append, hmove.alternates, hmove.events_account.1,
        ih t (hs.step hstep)]
      rfl
    | fault f => cases f
    | refused r => rw [State.eventsAlong, hstep]; rfl

/-! ## WAS is true once per press (42_event_dispatch.md R210) -/

/-- One where a press is waiting for a WAS, zero where none is. -/
def State.waiting (s : State) : Nat := if s.hasUnconsumedPress then 1 else 0

/-- One where the step just taken answered `WAS -> true`. -/
def State.answeredTrue (s : State) : Nat := if s.hostRsp = wasResponse true then 1 else 0

/-- A step from `s` to `t` answers for, or leaves waiting, no more than the presses it emits and the one that
waited before. -/
def State.Accounts (s t : State) : Prop :=
  t.answeredTrue + t.waiting ≤ pressCount t.events + s.waiting

theorem lastResponse_ne_wasResponse (x : Option Code) : lastResponse x ≠ wasResponse true := by
  cases x with
  | none => decide
  | some c =>
    intro h
    have hvalid := lastResponse_valid c
    rw [h] at hvalid
    exact absurd hvalid (by decide)

theorem State.answeredTrue_of_ne {s : State} (h : s.hostRsp ≠ wasResponse true) : s.answeredTrue = 0 :=
  if_neg h

/-- A step that leaves the flag as it was, and answers no WAS, accounts for itself. -/
theorem State.accounts_of_kept {s t : State} (hrsp : t.hostRsp ≠ wasResponse true)
    (hflag : t.hasUnconsumedPress = s.hasUnconsumedPress) : s.Accounts t := by
  rw [State.Accounts, State.answeredTrue_of_ne hrsp, State.waiting, State.waiting, hflag]
  omega

/-- A new command leaves one press waiting, and emits one. -/
theorem State.accounts_of_press {s t : State} {es : List Event} {c : Code}
    (hrsp : t.hostRsp ≠ wasResponse true) (hevents : t.events = es ++ [⟨.pressed, c⟩]) :
    s.Accounts t := by
  have hpress : 1 ≤ pressCount t.events := by
    rw [hevents, pressCount, List.filter_append, List.length_append]
    exact Nat.le_add_left 1 _
  have hwaiting : t.waiting ≤ 1 := by unfold State.waiting; split <;> omega
  rw [State.Accounts, State.answeredTrue_of_ne hrsp]
  omega

theorem zero_ne_wasResponse : (0 : RspWord) ≠ wasResponse true := by decide

/-- Every operation accounts for its presses and answers. -/
theorem execResult_accounts (i : Instr) (s : State) : s.Accounts (execResult i s) := by
  have hzero := zero_ne_wasResponse
  cases hi : isStageCase i with
  | true =>
    obtain h | ⟨b, h⟩ | ⟨r, -, h⟩ | ⟨c, -, h⟩ | h | ⟨a, c, h⟩ := execResult_stage i s hi <;> rw [h]
    -- TRK.CMDNEW
    case inr.inr.inr.inl =>
      exact State.accounts_of_press (by simpa using hzero) (State.newCommand_events _ c)
    all_goals exact State.accounts_of_kept (by simpa using hzero) (by simp)
  | false =>
    obtain h | ⟨_, -, h⟩ | ⟨d, -, h⟩ | ⟨-, h⟩ | ⟨_, _, -, h⟩ | ⟨_, h⟩ | ⟨w, hw, h⟩ | h :=
      execResult_input i s hi <;> rw [h]
    -- SPACE
    case inr.inr.inl =>
      have hrsp : (s.begin.decodePulsePair d).track.dispatch.hostRsp ≠ wasResponse true := by
        simpa using hzero
      obtain ⟨c, -, -, htrack⟩ | ⟨_, -, -, htrack⟩ | ⟨-, htrack⟩ | ⟨-, htrack⟩ :=
        (s.begin.decodePulsePair d).track_cases
      case inl =>
        refine State.accounts_of_press hrsp (c := c) (es := s.activeCommand.toList.map (⟨.released, ·⟩)) ?_
        rw [State.dispatch_events, htrack, State.newCommand_events]
        simp
      all_goals exact State.accounts_of_kept hrsp (by rw [htrack]; simp)
    -- LAST and the operations that answer 0
    case inr.inr.inr.inr.inr.inr.inl =>
      obtain rfl | rfl := hw
      · exact State.accounts_of_kept hzero rfl
      · exact State.accounts_of_kept (lastResponse_ne_wasResponse _) rfl
    -- WAS
    case inr.inr.inr.inr.inr.inr.inr =>
      unfold State.Accounts State.answeredTrue State.waiting
      cases hflag : s.hasUnconsumedPress <;> simp [wasResponse]
    all_goals exact State.accounts_of_kept (by simpa using hzero) (by simp)

/-- Every step accounts for its presses and answers; a reset forgets the press that waited. -/
theorem step_accounts {s t : State} (h : step s = .next t) : s.Accounts t := by
  obtain ⟨-, rfl⟩ | ⟨-, w, u, i, hfetch, -, rfl⟩ | ⟨-, -, -, -, -, rfl⟩ := step_cases s t h
  · exact Nat.zero_le _
  · obtain ⟨_, _, rfl⟩ := fetch_word_eq hfetch
    exact execResult_accounts i _
  · exact State.accounts_of_kept (by simpa using zero_ne_wasResponse) (by simp)

/-- Settles O48, by induction on the steps: each accounts for itself. -/
theorem wasIsTrueAtMostOncePerPress : Obligations.WasIsTrueAtMostOncePerPress := by
  unfold Obligations.WasIsTrueAtMostOncePerPress
  intro k
  induction k with
  | zero => intro s; exact Nat.zero_le _
  | succ k ih =>
    intro s
    cases hstep : step s with
    | next t =>
      have hfirst : t.answeredTrue + t.waiting ≤ pressCount t.events + s.waiting := step_accounts hstep
      have hrest : t.wasTrueAlong k ≤ pressCount (t.eventsAlong k) + t.waiting := ih t
      have hcount : pressCount (t.events ++ t.eventsAlong k) =
          pressCount t.events + pressCount (t.eventsAlong k) := by
        rw [pressCount, List.filter_append, List.length_append]; rfl
      have hwas : s.wasTrueAlong (k + 1) = t.answeredTrue + t.wasTrueAlong k := by
        rw [State.wasTrueAlong, hstep]; rfl
      rw [State.eventsAlong_succ hstep, hcount, hwas]
      change _ ≤ _ + s.waiting
      omega
    | fault f => cases f
    | refused r => rw [State.wasTrueAlong, hstep]; exact Nat.zero_le _

/-! ## A refresh holds off the release (20_memory.md R71) -/

theorem State.refreshDeadline_deadline (s : State) :
    s.refreshDeadline.repeatDeadline = later s.now s.cfg.repeatTimeout := rfl

/-- The tracker keeps the deadline and the active command, or refreshes the deadline. -/
theorem State.track_deadline (s : State) :
    (s.track.repeatDeadline = s.repeatDeadline ∧ s.track.activeCommand = s.activeCommand) ∨
      s.track.repeatDeadline = later s.now s.cfg.repeatTimeout := by
  obtain ⟨c, -, -, h⟩ | ⟨_, -, -, h⟩ | ⟨-, h⟩ | ⟨-, h⟩ := s.track_cases
  · exact .inr (by rw [h, State.newCommand_repeatDeadline])
  · exact .inr (by rw [h, State.refreshDeadline_deadline])
  · exact .inr (by rw [h, State.refreshDeadline_deadline])
  · exact .inl (by rw [h]; exact ⟨rfl, rfl⟩)

/-- An operation sets the deadline `REPEAT_TIMEOUT` ahead, or keeps it and makes no command active. -/
theorem execResult_deadline (i : Instr) (s : State) :
    ((execResult i s).repeatDeadline = s.repeatDeadline ∧
      ((execResult i s).activeCommand = s.activeCommand ∨ (execResult i s).activeCommand = none)) ∨
    (execResult i s).repeatDeadline = later s.now s.cfg.repeatTimeout := by
  cases hi : isStageCase i with
  | true =>
    obtain h | ⟨b, h⟩ | ⟨r, -, h⟩ | ⟨c, -, h⟩ | h | ⟨a, c, h⟩ := execResult_stage i s hi <;> rw [h]
    -- TRK.CMDNEW
    case inr.inr.inr.inl => exact .inr (State.newCommand_repeatDeadline _ c)
    -- TRK.CMDSAME, TRK.REPEAT
    case inr.inr.inr.inr.inl => exact .inr rfl
    all_goals exact .inl ⟨by simp, .inl (by simp)⟩
  | false =>
    obtain h | ⟨_, -, h⟩ | ⟨d, -, h⟩ | ⟨-, h⟩ | ⟨_, _, -, h⟩ | ⟨_, h⟩ | ⟨w, -, h⟩ | h :=
      execResult_input i s hi <;> rw [h]
    -- SPACE
    case inr.inr.inl =>
      obtain ⟨hd, ha⟩ | hd := (s.begin.decodePulsePair d).track_deadline
      · exact .inl ⟨by simpa using hd, .inl (by simpa using ha)⟩
      · exact .inr (by simpa using hd)
    -- WCHK
    case inr.inr.inr.inl =>
      obtain ⟨_, -, -, hrelease⟩ | ⟨-, hrelease⟩ := s.begin.releaseIfTimedOut_cases <;> rw [hrelease]
      exacts [.inl ⟨rfl, .inr rfl⟩, .inl ⟨rfl, .inl rfl⟩]
    all_goals exact .inl ⟨by simp, .inl (by simp)⟩

/-- No step writes the parameters. -/
theorem step_cfg {s t : State} (h : step s = .next t) : t.cfg = s.cfg := by
  obtain ⟨-, rfl⟩ | ⟨-, w, u, i, hfetch, -, rfl⟩ | ⟨-, -, -, -, -, rfl⟩ := step_cases s t h
  · rfl
  · obtain ⟨_, _, rfl⟩ := fetch_word_eq hfetch
    exact (execResult_environment i _).1
  · exact State.nextCycle_cfg s

/-- A step without a reset sets the deadline ahead of its own time, or makes no command active. -/
theorem step_deadline {s t : State} (hrst : s.cycle.rst = false) (h : step s = .next t) :
    (t.repeatDeadline = s.repeatDeadline ∧
      (t.activeCommand = s.activeCommand ∨ t.activeCommand = none)) ∨
    t.repeatDeadline = later t.now t.cfg.repeatTimeout := by
  obtain ⟨hhigh, -⟩ | ⟨-, w, u, i, hfetch, -, rfl⟩ | ⟨-, -, -, -, -, rfl⟩ := step_cases s t h
  · rw [hrst] at hhigh; cases hhigh
  · obtain ⟨_, _, rfl⟩ := fetch_word_eq hfetch
    obtain ⟨hcfg, hcycle, -, -⟩ := execResult_environment i _
    rw [State.now, hcycle, hcfg]
    exact execResult_deadline i _
  · exact .inl ⟨by simp, .inl (by simp)⟩

/-- A check made up to the time `d` finds no command past its deadline. -/
def State.HeldUntil (s : State) (d : Nat) : Prop := s.activeCommand ≠ none → d ≤ s.repeatDeadline.toNat

theorem State.HeldUntil.step {s t : State} {d : Nat} (hs : s.HeldUntil d) (hrst : s.cycle.rst = false)
    (h : step s = .next t) (hlo : d ≤ t.now.toNat + s.cfg.repeatTimeout)
    (hroom : t.now.toNat + s.cfg.repeatTimeout < 2 ^ 32) : t.HeldUntil d := by
  intro hactive
  obtain ⟨hkept, ha⟩ | hset := step_deadline hrst h
  · rw [hkept]
    refine hs ?_
    obtain ha | hnone := ha
    · rwa [← ha]
    · exact absurd hnone hactive
  · rw [step_cfg h] at hset
    rw [hset, later_toNat _ _ hroom]
    exact hlo

theorem State.after_of_step {s t : State} (h : step s = .next t) (k : Nat) :
    s.after (k + 1) = t.after k := by
  rw [State.after, h]

/-- The steps of a run without a reset, all at times that lie less than `d` ahead of a refresh, leave the
command held. -/
theorem State.HeldUntil.after {d k : Nat} {s v : State} (hs : s.HeldUntil d) (hreset : s.noReset)
    (hv : s.after k = some v)
    (htimes : ∀ j u, j ≤ k → s.after j = some u →
      d ≤ u.now.toNat + s.cfg.repeatTimeout ∧ u.now.toNat + s.cfg.repeatTimeout < 2 ^ 32) :
    v.HeldUntil d := by
  induction k generalizing s with
  | zero =>
    obtain rfl : s = v := Option.some.inj hv
    exact hs
  | succ k ih =>
    obtain ⟨t, hstep, ht⟩ := State.after_succ hv
    obtain ⟨hlo, hroom⟩ := htimes 1 t (by omega) (State.after_of_step hstep 0)
    refine ih (hs.step hreset.1 hstep hlo hroom) (hreset.step hstep) ht fun j u hj hu => ?_
    rw [step_cfg hstep]
    exact htimes (j + 1) u (by omega) ((State.after_of_step hstep j).trans hu)

/-- A SPACE whose result is a repeat code or a command refreshes the deadline (R173 to R175). -/
theorem execResult_space_refreshes {s : State} {dur : Duration} (hconn : s.connected = true)
    (hdres : (execResult (.space dur) s).dres = some .repeatCode ∨
      ∃ x, (execResult (.space dur) s).dres = some (.command x)) :
    (execResult (.space dur) s).repeatDeadline = later s.now s.cfg.repeatTimeout := by
  rw [execResult_space, if_pos hconn] at hdres ⊢
  obtain ⟨c, -, -, h⟩ | ⟨_, -, -, h⟩ | ⟨-, h⟩ | ⟨hnone, -⟩ :=
    (s.begin.decodePulsePair (pairDuration s.markLatch dur)).track_cases
  · rw [h]; simp
  · rw [h]; simp
  · rw [h]; simp
  · rw [State.dispatch_dres, State.track_dres] at hdres
    obtain hnone | hnone := hnone <;> simp [hnone] at hdres

/-- Settles O38: the refresh holds the command, the steps between keep it held, and the check then releases
nothing. -/
theorem refreshBeforeACheckPreventsTheRelease : Obligations.RefreshBeforeACheckPreventsTheRelease := by
  unfold Obligations.RefreshBeforeACheckPreventsTheRelease
  intro i s t v k c hexec hrefresh hconn hroom hreset hv htimes hc
  obtain rfl : execResult i s = t := execResult_of_exec i s t hexec
  have hidle : s.now.toNat + 2 * s.cfg.repeatTimeout < 2 ^ 32 := hroom
  obtain ⟨hcfg, -, -, -⟩ := execResult_environment i s
  have hdeadline : (execResult i s).repeatDeadline = later s.now s.cfg.repeatTimeout := by
    obtain rfl | ⟨x, rfl, hx⟩ | ⟨x, rfl, hx⟩ | ⟨dur, rfl, hdres⟩ := hrefresh
    · rfl
    · rw [execResult_of_exec _ _ _ (exec_trkCmdsame hx)]; rfl
    · rw [execResult_of_exec _ _ _ (exec_trkCmdnew hx)]; simp
    · exact execResult_space_refreshes hconn hdres
  have hheld : (execResult i s).HeldUntil (s.now.toNat + s.cfg.repeatTimeout) := fun _ => by
    rw [hdeadline, later_toNat _ _ (by omega)]
  have hheldv : v.HeldUntil (s.now.toNat + s.cfg.repeatTimeout) := by
    refine hheld.after hreset hv fun j u hj hu => ?_
    obtain ⟨hlo, hhi⟩ := htimes j u hj hu
    rw [hcfg]
    omega
  refine ⟨_, exec_eq .wchk _, ?_⟩
  exact execResult_wchk_silent (s := { v with cycle := c })
    fun hactive => Nat.le_trans hc (hheldv hactive)

end Sys2Proof.Machine
end

section
/-!
The watcher's timer (41_command_tracker.md R180) along a run that the arbiter drives, and the bound it gives
for a button that falls silent (R182).
-/

namespace Sys2Proof.Machine

/-! ## The timer is set and not passed (R180) -/

/-- The watcher's sleep is the long one at most. -/
theorem State.watchPeriod_le (s : State) : s.watchPeriod ≤ s.cfg.watchIdle := by
  unfold State.watchPeriod Config.watchIdle Config.watchActive
  split <;> omega

/-- The timer stays armed where the clock, the timer and the inputs to come stay. -/
theorem State.WatchArmed.of_kept {s t : State} (h : s.WatchArmed)
    (henv : t.cfg = s.cfg ∧ t.cycle = s.cycle ∧ t.cycles = s.cycles ∧ t.script = s.script)
    (hconn : t.connected = s.connected) (hdue : t.watchDue = s.watchDue) : t.WatchArmed := by
  obtain ⟨hcfg, hcycle, hcycles, hscript⟩ := henv
  obtain ⟨hdriven, htimes, hahead, hnear⟩ := h
  refine ⟨?_, ?_, ?_, ?_⟩ <;> simp only [State.now, hcfg, hcycle, hcycles, hscript, hconn, hdue]
  exacts [hdriven, htimes, hahead, hnear]

/-- Reloading it with a sleep of the watcher arms the timer. -/
theorem State.WatchArmed.of_reload {s t : State} (h : s.WatchArmed)
    (henv : t.cfg = s.cfg ∧ t.cycle = s.cycle ∧ t.cycles = s.cycles ∧ t.script = s.script)
    {ms : Nat} (hms : ms ≤ s.cfg.watchIdle) (hroom : s.clockHasRoom s.cfg.watchIdle)
    (hdue : t.watchDue = later s.now ms) : t.WatchArmed := by
  obtain ⟨hcfg, hcycle, hcycles, hscript⟩ := henv
  have hlater : t.watchDue.toNat = s.now.toNat + ms := by
    rw [hdue]
    exact later_toNat _ _ (Nat.lt_of_le_of_lt (Nat.add_le_add_left hms _) hroom)
  have hnow : t.now = s.now := by rw [State.now, hcycle, State.now]
  refine ⟨hscript.trans h.driven, ?_, fun _ => ?_, fun _ => ?_⟩
  · rw [hnow, hcycles]; exact h.times
  · rw [hlater, hnow]; omega
  · rw [hlater, hnow, hcfg]; omega

/-- An input keeps the timer armed: a check and the first CONNECT reload it, the others leave it. -/
theorem State.WatchArmed.execResult_input {s : State} (h : s.WatchArmed) {i : Instr}
    (hi : isStageCase i = false) (hroom : s.clockHasRoom s.cfg.watchIdle) :
    (execResult i s).WatchArmed := by
  have henv := execResult_environment i s
  obtain heq | ⟨_, -, heq⟩ | ⟨_, -, heq⟩ | ⟨-, heq⟩ | ⟨v, p, -, heq⟩ | ⟨_, heq⟩ | ⟨_, -, heq⟩ | heq :=
    Machine.execResult_input i s hi <;> rw [heq] at henv ⊢
  -- WCHK
  case inr.inr.inr.inl =>
    refine h.of_reload henv ?_ hroom (by simp; rfl)
    exact (State.watchPeriod_le _).trans_eq (by simp)
  -- CONNECT
  case inr.inr.inr.inr.inl => exact h.of_reload henv le_rfl hroom rfl
  all_goals exact h.of_kept henv (by simp) (by simp)

/-- The arbiter's choice takes no time. -/
theorem fetch_word_of_driven {s u : State} {w : BusWord} (hs : s.script = [])
    (h : s.fetch = .word w u) : ∃ c, u = { s with cycle := c } ∧ c.now = s.now := by
  obtain ⟨_, _, hscript, -⟩ | ⟨-, _, -, -, rfl⟩ | ⟨-, -, -, -, rfl⟩ | ⟨-, -, -, _, -, -, rfl⟩ :=
    fetch_word_cases s u w h
  · rw [hs] at hscript; cases hscript
  all_goals exact ⟨_, rfl, rfl⟩

/-- The next cycle is at a time from now to a millisecond later, and the times after it do not decrease. -/
theorem State.nextCycle_times {s : State} (htimes : timesFrom s.now.toNat s.cycles = true)
    (hroom : s.clockHasRoom 1) :
    s.now.toNat ≤ s.nextCycle.now.toNat ∧ s.nextCycle.now.toNat ≤ s.now.toNat + 1 ∧
      timesFrom s.nextCycle.now.toNat s.nextCycle.cycles = true := by
  obtain ⟨hnext, hfar⟩ | ⟨c, rest, hs, hle, hnext⟩ := s.nextCycle_cases <;> rw [hnext]
  · have htick : s.tick.now.toNat = s.now.toNat + 1 := later_toNat s.now 1 hroom
    refine ⟨by omega, by omega, ?_⟩
    rw [htick, State.tick_cycles]
    cases hs : s.cycles with
    | nil => rfl
    | cons c rest =>
      have hc := hfar c rest hs
      rw [hs] at htimes
      simp only [timesFrom, Bool.and_eq_true, decide_eq_true_eq] at htimes ⊢
      exact ⟨by omega, htimes.2⟩
  · rw [hs] at htimes
    simp only [timesFrom, Bool.and_eq_true, decide_eq_true_eq] at htimes
    exact ⟨htimes.1, hle, htimes.2⟩

/-- Settles O54, by what the step does: a reset stops the watcher, an input keeps its timer armed, and time
passes only up to the timer. -/
theorem everyStepKeepsTheWatchArmed : Obligations.EveryStepKeepsTheWatchArmed := by
  unfold Obligations.EveryStepKeepsTheWatchArmed
  intro s t hs hroom hstep
  have hinputs : s.inputsOnly := by rw [State.inputsOnly, hs.driven]; nofun
  have hroom1 : s.clockHasRoom 1 := by unfold State.clockHasRoom at hroom ⊢; omega
  obtain rfl | ⟨w, u, i, hfetch, hi, rfl⟩ | ⟨-, hdue, rfl⟩ := hinputs.step_cases hstep
  · exact ⟨hs.driven, hs.times, nofun, nofun⟩
  · obtain ⟨c, rfl, hc⟩ := fetch_word_of_driven hs.driven hfetch
    have harmed : State.WatchArmed { s with cycle := c } := by
      obtain ⟨hdriven, htimes, hahead, hnear⟩ := hs
      refine ⟨hdriven, ?_, ?_, ?_⟩ <;> simp only [State.now, hc] <;> assumption
    refine harmed.execResult_input hi ?_
    unfold State.clockHasRoom at hroom ⊢
    rw [State.now, hc]
    dsimp only
    omega
  · obtain ⟨hlo, hhi, htimes⟩ := State.nextCycle_times hs.times hroom1
    refine ⟨by rw [State.nextCycle_script, hs.driven], htimes, fun hconn => ?_, fun hconn => ?_⟩ <;>
      rw [State.nextCycle_connected] at hconn <;> rw [State.nextCycle_watchDue]
    · have hahead := hs.ahead hconn
      have hne : s.now.toNat ≠ s.watchDue.toNat := fun h => by
        rw [s.watchFallsDue_iff.mpr ⟨hconn, BitVec.eq_of_toNat_eq h⟩] at hdue
        cases hdue
      omega
    · have hnear := hs.near hconn
      rw [State.nextCycle_cfg]
      omega

/-- Settles O55: after reset nothing is to come, and the watcher does not run. -/
theorem resetIsArmed : Obligations.ResetIsArmed := by
  unfold Obligations.ResetIsArmed
  exact ⟨rfl, rfl, nofun, nofun⟩

/-! ## A button that falls silent (R182) -/

/-- The button `a` is down, nothing is presented any more, and the clock, the deadline and the timer stand at
`n`, `d` and `w`. -/
structure State.Silent (s : State) (a : Code) (n d w : Nat) : Prop where
  cfg : s.cfg = Config.irdec
  quiet : s.quiet
  connected : s.connected = true
  active : s.activeCommand = some a
  now : s.now.toNat = n
  deadline : s.repeatDeadline.toNat = d
  due : s.watchDue.toNat = w

/-- The first event of the run is the release of `a`, at a time after `d` and not after `m`. -/
def State.Releases (s : State) (a : Code) (d m : Nat) : Prop :=
  ∃ k t, s.after k = some t ∧ s.eventsAlong k = [⟨.released, a⟩] ∧ t.events = [⟨.released, a⟩] ∧
    t.activeCommand = none ∧ d < t.now.toNat ∧ t.now.toNat ≤ m

/-- A step without an event puts the release off to the steps after it. -/
theorem State.Releases.of_step {s t : State} {a : Code} {d m : Nat} (h : t.Releases a d m)
    (hstep : Machine.step s = .next t) (hevents : t.events = []) : s.Releases a d m := by
  obtain ⟨k, v, hv, hrun, hlast⟩ := h
  refine ⟨k + 1, v, (State.after_of_step hstep k).trans hv, ?_, hlast⟩
  rw [State.eventsAlong_succ hstep, hevents, hrun]
  rfl

section Silent

variable {s : State} {a : Code} {n d w : Nat}

/-- Before the timer a millisecond passes. -/
theorem State.Silent.tick (h : s.Silent a n d w) (hn : n < w) (hroom : n + 1 < 2 ^ 32) :
    ∃ t, Machine.step s = .next t ∧ t.events = [] ∧ t.Silent a (n + 1) d w := by
  obtain ⟨hrst, hpulse, hhost, hcycles, hscript⟩ := h.quiet
  have hdue : s.watchFallsDue = false := by
    rw [← Bool.not_eq_true, State.watchFallsDue_iff]
    rintro ⟨-, hnow⟩
    have := h.now
    rw [hnow, h.due] at this
    omega
  have hnext : s.nextCycle = s.tick := by rw [State.nextCycle, hcycles]
  refine ⟨s.tick, hnext ▸ step_of_fetch_idle (State.fetch_of_idle hrst hscript hpulse hdue hhost), rfl,
    h.cfg, ⟨rfl, rfl, rfl, hcycles, hscript⟩, h.connected, h.active, ?_, h.deadline, h.due⟩
  have hlater : s.tick.now = later s.now 1 := rfl
  rw [hlater, later_toNat _ _ (by rw [h.now]; exact hroom), h.now]

/-- At the timer the step is a check. -/
theorem State.Silent.step_eq_check (h : s.Silent a n d n) : Machine.step s = exec .wchk s := by
  obtain ⟨hrst, hpulse, -, -, hscript⟩ := h.quiet
  have hdue : s.watchFallsDue = true :=
    s.watchFallsDue_iff.mpr ⟨h.connected, BitVec.eq_of_toNat_eq (h.now.trans h.due.symm)⟩
  exact step_of_fetch_word (State.fetch_of_timer hrst hscript hpulse hdue) rfl

/-- A check up to the deadline sets the timer 120 ms ahead. -/
theorem State.Silent.check_early (h : s.Silent a n d n) (hd : n ≤ d) (hroom : n + 120 < 2 ^ 32) :
    ∃ t, Machine.step s = .next t ∧ t.events = [] ∧ t.Silent a n d (n + 120) := by
  have hresult := execResult_wchk_of_kept h.connected fun _ => by rw [h.now, h.deadline]; exact hd
  have hperiod : s.watchPeriod = 120 := by rw [s.watchPeriod_eq.2 a h.active, h.cfg]; rfl
  refine ⟨execResult .wchk s, h.step_eq_check.trans (exec_eq .wchk s), ?_⟩
  rw [hresult, hperiod]
  refine ⟨rfl, h.cfg, h.quiet, h.connected, h.active, h.now, h.deadline, ?_⟩
  dsimp only
  rw [later_toNat _ _ (by rw [h.now]; exact hroom), h.now]

/-- A check past the deadline releases the button. -/
theorem State.Silent.check_past (h : s.Silent a n d n) (hd : d < n) : s.Releases a d n := by
  have hresult := execResult_wchk_of_past h.connected h.active (by rw [h.now, h.deadline]; exact hd)
  have hstep : Machine.step s = .next (execResult .wchk s) :=
    h.step_eq_check.trans (exec_eq .wchk s)
  refine ⟨1, execResult .wchk s, State.after_of_step hstep 0, ?_, ?_⟩
  · rw [State.eventsAlong_succ hstep, hresult]; rfl
  · rw [hresult]
    exact ⟨rfl, rfl, by rw [← h.now] at hd; exact hd, h.now.le⟩

end Silent

/-- The release comes by the later of the first check and 120 ms past the deadline: every check up to the
deadline sets the next one 120 ms on. The measure of the run is the time left, and within a millisecond
whether the check is still to come. -/
theorem State.Silent.releases {s : State} {a : Code} {n d w m : Nat} (h : s.Silent a n d w)
    (hn : n ≤ w) (hw : w ≤ m) (hd : d + 120 ≤ m) (hroom : m < 2 ^ 32) : s.Releases a d m := by
  by_cases hdue : n = w
  · subst hdue
    by_cases hpast : d < n
    · obtain ⟨k, t, ht, hrun, hevents, hnone, hlo, hhi⟩ := h.check_past hpast
      exact ⟨k, t, ht, hrun, hevents, hnone, hlo, by omega⟩
    · obtain ⟨t, hstep, hevents, hnext⟩ := h.check_early (by omega) (by omega)
      exact (State.Silent.releases hnext (by omega) (by omega) hd hroom).of_step hstep hevents
  · obtain ⟨t, hstep, hevents, hnext⟩ := h.tick (by omega) (by omega)
    exact (State.Silent.releases hnext (by omega) hw hd hroom).of_step hstep hevents
termination_by 2 * (m - n) + if n = w then 1 else 0
decreasing_by all_goals (split_ifs <;> omega)

/-- Settles O41: the deadline is 120 ms ahead and the first check at most 240 ms. -/
theorem silentButtonIsReleasedInTime : Obligations.SilentButtonIsReleasedInTime := by
  unfold Obligations.SilentButtonIsReleasedInTime
  intro s a hcfg hquiet hconn harmed hactive hdeadline hroom
  unfold State.clockHasRoom at hroom
  have hd : s.repeatDeadline.toNat = s.now.toNat + 120 := by
    rw [hdeadline]
    exact later_toNat s.now 120 (by omega)
  have hahead := harmed.ahead hconn
  have hnear : s.watchDue.toNat ≤ s.now.toNat + 240 := by
    have := harmed.near hconn
    rwa [hcfg] at this
  have hsilent : s.Silent a s.now.toNat (s.now.toNat + 120) s.watchDue.toNat :=
    ⟨hcfg, hquiet, hconn, hactive, rfl, hd, rfl⟩
  exact hsilent.releases hahead hnear (by omega) (by omega)

end Sys2Proof.Machine
end

section
/-!
Event Dispatch and the host's operations: the records of an event (42_event_dispatch.md R201, R202, R209), the
handler table (R206; 10_state.md R36, R42 line 6) and the configuration (43_connect_and_step.md R230 to R233;
10_state.md R26 to R28).
-/

namespace Sys2Proof.Machine

/-! ## The records of an event -/

theorem dispatchOne_registration (h : List Entry) (a : Action) (c : Code) :
    dispatchOne .registration h a c =
      (h.filter (fun e => e.action == a && (e.any || e.code == c))).map (fun e => ⟨e.handler, a, c⟩) := rfl

theorem dispatchOne_reverse (h : List Entry) (a : Action) (c : Code) :
    dispatchOne .reverse h a c =
      ((h.filter (fun e => e.action == a && (e.any || e.code == c))).map
        (fun e => ⟨e.handler, a, c⟩)).reverse := List.map_reverse

/-- EV.PRESSED and EV.RELEASED put out the records of their event, and do nothing else. -/
theorem exec_event (s : State) (h : HandlerId) (c : Code) :
    exec (.evPressed h c) s =
        .next { s.begin with out := dispatchOne s.cfg.handlerOrder s.handlers .pressed c } ∧
      exec (.evReleased h c) s =
        .next { s.begin with out := dispatchOne s.cfg.handlerOrder s.handlers .released c } :=
  ⟨rfl, rfl⟩

/-- Settles O43, by the handler order. -/
theorem eventReachesTheMatchingHandlersInOrder :
    Obligations.EventReachesTheMatchingHandlersInOrder := by
  unfold Obligations.EventReachesTheMatchingHandlersInOrder
  intro s h c
  obtain ⟨hpressed, hreleased⟩ := exec_event s h c
  rw [hpressed, hreleased]
  refine ⟨fun ho => ?_, fun ho => ?_⟩ <;> rw [ho]
  · rw [dispatchOne_registration, dispatchOne_registration]
    exact ⟨rfl, rfl⟩
  · rw [dispatchOne_reverse, dispatchOne_reverse]
    exact ⟨rfl, rfl⟩

/-- The records of the handlers that `q` chooses are those of the entries that `q` chooses. -/
theorem dispatchOne_filter (order : HandlerOrder) (h : List Entry) (a : Action) (c : Code)
    (q : HandlerId → Bool) :
    (dispatchOne order h a c).filter (fun v => q v.handler) =
      dispatchOne order (h.filter (fun e => q e.handler)) a c := by
  have hcomm : (h.filter (fun e => e.matchesEvent a c)).filter (fun e => q e.handler) =
      (h.filter (fun e => q e.handler)).filter (fun e => e.matchesEvent a c) := List.filter_comm ..
  unfold dispatchOne
  rw [List.filter_map]
  congr 1
  change (matching order h a c).filter (fun e => q e.handler) = _
  cases order with
  | registration => exact hcomm
  | reverse => simp only [matching, List.filter_reverse, hcomm]

theorem dispatchAll_filter (order : HandlerOrder) (h : List Entry) (es : List Event)
    (q : HandlerId → Bool) :
    (dispatchAll order h es).filter (fun v => q v.handler) =
      dispatchAll order (h.filter (fun e => q e.handler)) es := by
  induction es with
  | nil => rfl
  | cons e es ih =>
    rw [dispatchAll_cons, dispatchAll_cons, List.filter_append, ih, dispatchOne_filter]

/-- A wildcard entry for each action has one record of every event, in either order. -/
theorem dispatchAll_wildcards (order : HandlerOrder) (p r : HandlerId) (x y : Code) (es : List Event) :
    dispatchAll order [⟨true, x, .pressed, p⟩, ⟨true, y, .released, r⟩] es =
      es.map (fun e => ⟨match e.action with | .pressed => p | .released => r, e.action, e.code⟩) := by
  induction es with
  | nil => rfl
  | cons e es ih =>
    obtain ⟨a, c⟩ := e
    rw [dispatchAll_cons, ih, List.map_cons]
    cases order <;> cases a <;> rfl

/-- A step that inputs alone drive puts out the records of its events, and no others (R201). -/
theorem out_eq_dispatchAll_events {s t : State} (hs : s.inputsOnly) (h : step s = .next t) :
    t.out = dispatchAll s.cfg.handlerOrder s.handlers t.events := by
  obtain rfl | ⟨w, u, i, hfetch, hi, rfl⟩ | ⟨-, -, rfl⟩ := hs.step_cases h
  · rfl
  · obtain ⟨_, _, rfl⟩ := fetch_word_eq hfetch
    obtain heq | ⟨_, -, heq⟩ | ⟨_, -, heq⟩ | ⟨-, heq⟩ | ⟨_, _, -, heq⟩ | ⟨_, heq⟩ | ⟨_, -, heq⟩ | heq :=
      execResult_input i _ hi <;> rw [heq] <;> simp
  · simp

/-- Settles O44: of the step's records the pair's are those of its two entries. -/
theorem wildcardHandlersReceiveEveryEvent : Obligations.WildcardHandlersReceiveEveryEvent := by
  unfold Obligations.WildcardHandlersReceiveEveryEvent
  intro s t p r x y hs _ htable hstep
  rw [out_eq_dispatchAll_events hs hstep, dispatchAll_filter _ _ _ (fun id => id == p || id == r), htable]
  exact dispatchAll_wildcards _ p r x y t.events

/-! ## The handler table -/

/-- There is room exactly where the length is below every bound there is. -/
theorem State.hasRoom_iff (s : State) :
    s.hasRoom = true ↔ ∀ n, s.cfg.nHandlers = some n → s.handlers.length < n := by
  unfold State.hasRoom
  cases s.cfg.nHandlers <;> simp

theorem State.register_of_room {s : State} (h : s.hasRoom = true) (e : Entry) :
    s.register e = { s with handlers := s.handlers ++ [e] } := if_pos h

theorem State.register_of_full {s : State} (h : ¬ s.hasRoom = true) (e : Entry) : s.register e = s :=
  if_neg h

theorem exec_onbtn (h : HandlerId) (a : Action) (any : Bool) (c : Code) (s : State) :
    exec (.onbtn h a any c) s = .next ((s.begin.register ⟨any, c, a, h⟩).respond 0) := rfl

/-- Settles O45, by whether the table has room. -/
theorem registrationIsAppended : Obligations.RegistrationIsAppended := by
  unfold Obligations.RegistrationIsAppended
  intro s h a any c
  rw [exec_onbtn]
  refine ⟨fun hroom => ?_, fun n hn hfull => ?_⟩
  · rw [State.register_of_room (s.begin.hasRoom_iff.mpr hroom)]
    rfl
  · have hno : ¬ s.begin.hasRoom = true := fun hroom => by
      have := s.begin.hasRoom_iff.mp hroom n hn
      rw [State.begin_handlers] at this
      omega
    rw [State.register_of_full hno, State.begin_respond_zero]

/-- An operation appends to the table, or leaves it. -/
theorem execResult_handlers (i : Instr) (s : State) : s.handlers <+: (execResult i s).handlers := by
  have kept {t : State} (h : t.handlers = s.handlers) : s.handlers <+: t.handlers := ⟨[], by simp [h]⟩
  cases hi : isStageCase i with
  | true =>
    obtain h | ⟨b, h⟩ | ⟨r, -, h⟩ | ⟨c, -, h⟩ | h | ⟨a, c, h⟩ := execResult_stage i s hi <;> rw [h] <;>
      exact kept (by simp)
  | false =>
    obtain h | ⟨_, -, h⟩ | ⟨d, -, h⟩ | ⟨-, h⟩ | ⟨_, _, -, h⟩ | ⟨e, h⟩ | ⟨w, -, h⟩ | h :=
      execResult_input i s hi <;> rw [h]
    -- ONBTN
    case inr.inr.inr.inr.inr.inl =>
      rw [State.respond_handlers, State.register_handlers]
      split
      exacts [⟨[e], rfl⟩, kept rfl]
    all_goals exact kept (by simp)

/-- Settles O57: an operation appends to the table at most, and time passing leaves it. -/
theorem handlerTableOnlyGrows : Obligations.HandlerTableOnlyGrows := by
  unfold Obligations.HandlerTableOnlyGrows
  intro s t hrst hstep
  obtain ⟨hhigh, -⟩ | ⟨-, w, u, i, hfetch, -, rfl⟩ | ⟨-, -, -, -, -, rfl⟩ := step_cases s t hstep
  · rw [hrst] at hhigh; cases hhigh
  · obtain ⟨c, l, rfl⟩ := fetch_word_eq hfetch
    exact execResult_handlers i { s with cycle := c, script := l }
  · exact ⟨[], by simp⟩

/-! ## The configuration -/

/-- The first CONNECT configures (R230). -/
theorem exec_connect_of_not_connected (v : Protocol) (p : Pin) {s : State} (h : s.connected = false) :
    exec (.connect v p) s = .next ((s.begin.configure v p).respond 0) := by
  rw [exec_eq, execResult_connect, h]
  rfl

/-- Settles O49. -/
theorem firstConnectConfigures : Obligations.FirstConnectConfigures := by
  unfold Obligations.FirstConnectConfigures
  intro v p s h
  rw [exec_connect_of_not_connected v p h]
  rfl

/-- Settles O16, operation by operation. -/
theorem beforeConnectPulsesAreDropped : Obligations.BeforeConnectPulsesAreDropped := by
  unfold Obligations.BeforeConnectPulsesAreDropped
  intro s h
  refine ⟨fun dur => ?_, fun dur => ?_, ?_, fun hunbounded id a any c => ?_, fun v p =>
    ⟨_, exec_connect_of_not_connected v p h, rfl, rfl, rfl⟩⟩
  · exact (markLatchesTheDuration dur s).2 h
  · rw [exec_eq, execResult_space, h]; rfl
  · exact (watcherReleasesPastTheDeadline s).2.2.2 h
  · exact (registrationIsAppended s id a any c).1 fun n hn => by rw [hunbounded] at hn; cases hn

/-- Settles O51: both answer 0, as a step does from its start. -/
theorem nopAndReservedChangeNothing : Obligations.NopAndReservedChangeNothing := by
  unfold Obligations.NopAndReservedChangeNothing
  intro s
  refine ⟨?_, fun op _ => ?_⟩
  · rw [exec_eq, execResult_nop, State.begin_respond_zero]
  · rw [exec_eq, execResult_reserved, State.begin_respond_zero]

/-- Once connected, no operation writes the configuration. -/
theorem execResult_configuration (i : Instr) {s : State} (hconn : s.connected = true) :
    (execResult i s).connected = true ∧ (execResult i s).protocol = s.protocol ∧
      (execResult i s).pinSel = s.pinSel := by
  cases hi : isStageCase i with
  | true =>
    obtain h | ⟨b, h⟩ | ⟨r, -, h⟩ | ⟨c, -, h⟩ | h | ⟨a, c, h⟩ := execResult_stage i s hi <;> rw [h] <;>
      simp [hconn]
  | false =>
    obtain h | ⟨_, -, h⟩ | ⟨d, -, h⟩ | ⟨-, h⟩ | ⟨_, _, hnot, h⟩ | ⟨e, h⟩ | ⟨w, -, h⟩ | h :=
      execResult_input i s hi
    -- CONNECT
    case inr.inr.inr.inr.inl => rw [hconn] at hnot; cases hnot
    all_goals rw [h]; simp [hconn]

/-- Settles O56. -/
theorem firstConnectionStands : Obligations.FirstConnectionStands := by
  unfold Obligations.FirstConnectionStands
  intro s t hconn hrst hstep
  obtain ⟨hhigh, -⟩ | ⟨-, w, u, i, hfetch, -, rfl⟩ | ⟨-, -, -, -, -, rfl⟩ := step_cases s t hstep
  · rw [hrst] at hhigh; cases hhigh
  · obtain ⟨_, _, rfl⟩ := fetch_word_eq hfetch
    exact execResult_configuration i hconn
  · simp [hconn]

end Sys2Proof.Machine
end

section
/-!
Coherence (10_state.md R42): the state after reset has it, and every step keeps it. The part about the Command
Tracker is `State.Reported`; connected, the rest is the script and the capacity of the table.
-/

namespace Sys2Proof.Machine

/-- Settles O1: the values stand in the record. -/
theorem parametersHaveTheirValues : Obligations.ParametersHaveTheirValues := by
  unfold Obligations.ParametersHaveTheirValues
  exact ⟨rfl, rfl, rfl, rfl, rfl, rfl, rfl, rfl, rfl, rfl, rfl, by decide⟩

/-! ## Reset -/

/-- After reset nothing is active, nothing was reported and the table is empty. -/
theorem State.coherent_resetFields {s : State} (hs : s.inputsOnly) : s.resetFields.Coherent where
  inputs := hs
  active := nofun
  unreported := fun _ => ⟨rfl, rfl⟩
  decoderBeforeConnect := fun _ => ⟨rfl, rfl, rfl⟩
  trackerBeforeConnect := fun _ => ⟨rfl, rfl, rfl, rfl⟩
  configBeforeConnect := fun _ => ⟨rfl, rfl, rfl⟩
  capacity := fun n _ => Nat.zero_le n

/-- Settles O53: the reset state is its own reset, and has no script. -/
theorem resetIsCoherent : Obligations.ResetIsCoherent := by
  unfold Obligations.ResetIsCoherent
  exact State.resetFields_reset ▸ State.coherent_resetFields nofun

/-! ## The Command Tracker's part (R42 lines 2 and 3) -/

/-- The active command is the last reported one, and without a report nothing is active and no press waits. -/
def State.Reported (s : State) : Prop :=
  (∀ c, s.activeCommand = some c → s.lastReportedCommand = some c) ∧
    (s.lastReportedCommand = none → s.activeCommand = none ∧ s.hasUnconsumedPress = false)

theorem State.Reported.congr {s t : State} (h : s.Reported) (ha : t.activeCommand = s.activeCommand)
    (hl : t.lastReportedCommand = s.lastReportedCommand)
    (hp : t.hasUnconsumedPress = s.hasUnconsumedPress) : t.Reported := by
  rwa [State.Reported, ha, hl, hp]

theorem State.Reported.track {s : State} (h : s.Reported) : s.track.Reported := by
  obtain ⟨c, -, -, ht⟩ | ⟨_, -, -, ht⟩ | ⟨-, ht⟩ | ⟨-, ht⟩ := s.track_cases <;> rw [ht]
  · exact ⟨fun _ hc => hc, nofun⟩
  all_goals exact h

theorem State.Reported.releaseIfTimedOut {s : State} (h : s.Reported) : s.releaseIfTimedOut.Reported := by
  obtain ⟨a, -, -, ht⟩ | ⟨-, ht⟩ := s.releaseIfTimedOut_cases <;> rw [ht]
  · exact ⟨nofun, fun hl => ⟨rfl, (h.2 hl).2⟩⟩
  · exact h

/-! ## Coherence, operation by operation -/

section Coherence

variable {s t : State}

theorem State.Coherent.reported (h : s.Coherent) : s.Reported :=
  ⟨fun c hc => (h.active c hc).1, h.unreported⟩

/-- Connected, a state is coherent if its tracker is, its script presents inputs alone and its table fits. -/
theorem State.coherent_of_connected (hconn : t.connected = true) (hinputs : t.inputsOnly)
    (hreported : t.Reported) (hcapacity : ∀ n, t.cfg.nHandlers = some n → t.handlers.length ≤ n) :
    t.Coherent where
  inputs := hinputs
  active := fun c hc => ⟨hreported.1 c hc, hconn⟩
  unreported := hreported.2
  decoderBeforeConnect := fun h => by rw [hconn] at h; cases h
  trackerBeforeConnect := fun h => by rw [hconn] at h; cases h
  configBeforeConnect := fun h => by rw [hconn] at h; cases h
  capacity := hcapacity

/-- What of a state coherence is about, apart from the script, is the same in `t`. -/
theorem State.Coherent.congr (h : s.Coherent) (hinputs : t.inputsOnly)
    (heq : ∃ c cs l d es o r, t = { s with
      cycle := c, cycles := cs, script := l, dres := d, events := es, out := o, hostRsp := r }) :
    t.Coherent := by
  obtain ⟨_, _, _, _, _, _, _, rfl⟩ := heq
  exact ⟨hinputs, h.active, h.unreported, h.decoderBeforeConnect, h.trackerBeforeConnect,
    h.configBeforeConnect, h.capacity⟩

theorem State.Coherent.begin (h : s.Coherent) : s.begin.Coherent :=
  h.congr h.inputs ⟨_, _, _, _, _, _, _, rfl⟩

theorem State.Coherent.respond (h : s.Coherent) (w : RspWord) : (s.respond w).Coherent :=
  h.congr h.inputs ⟨_, _, _, _, _, _, _, rfl⟩

/-- A registration fits where there is room (10_state.md R20, 42_event_dispatch.md R206). -/
theorem State.Coherent.register (h : s.Coherent) (e : Entry) : (s.register e).Coherent := by
  by_cases hroom : s.hasRoom = true
  · rw [State.register_of_room hroom]
    refine ⟨h.inputs, h.active, h.unreported, h.decoderBeforeConnect, h.trackerBeforeConnect,
      h.configBeforeConnect, fun n hn => ?_⟩
    rw [List.length_append]
    exact s.hasRoom_iff.mp hroom n hn
  · rwa [State.register_of_full hroom]

theorem State.Coherent.clearPressFlag (h : s.Coherent) : s.clearPressFlag.Coherent where
  inputs := h.inputs
  active := h.active
  unreported := fun hl => ⟨(h.unreported hl).1, rfl⟩
  decoderBeforeConnect := h.decoderBeforeConnect
  trackerBeforeConnect := fun hc => by
    obtain ⟨ha, hd, hl, -⟩ := h.trackerBeforeConnect hc
    exact ⟨ha, hd, hl, rfl⟩
  configBeforeConnect := h.configBeforeConnect
  capacity := h.capacity

/-- An input keeps a state coherent. The pulse path and the watcher run only when connected; the first CONNECT
finds the tracker as reset left it. -/
theorem State.Coherent.execResult_input (h : s.Coherent) {i : Instr} (hi : isStageCase i = false) :
    (execResult i s).Coherent := by
  have hinputs := State.inputsOnly_execResult i h.inputs
  obtain heq | ⟨d, hconn, heq⟩ | ⟨d, hconn, heq⟩ | ⟨hconn, heq⟩ | ⟨v, p, -, heq⟩ | ⟨e, heq⟩ |
    ⟨w, -, heq⟩ | heq := Machine.execResult_input i s hi <;> rw [heq] at hinputs ⊢
  -- the operations that change nothing
  case inl => exact h.begin
  -- MARK
  case inr.inl => exact State.coherent_of_connected hconn hinputs h.reported h.capacity
  -- SPACE
  case inr.inr.inl =>
    have hdecoded : (s.begin.decodePulsePair d).Reported :=
      h.reported.congr (by simp) (by simp) (by simp)
    exact State.coherent_of_connected (by simpa using hconn) hinputs hdecoded.track
      (by simpa using h.capacity)
  -- WCHK
  case inr.inr.inr.inl =>
    have hchecked := State.Reported.releaseIfTimedOut h.begin.reported
    exact State.coherent_of_connected (by simpa using hconn) hinputs hchecked (by simpa using h.capacity)
  -- CONNECT
  case inr.inr.inr.inr.inl => exact State.coherent_of_connected rfl hinputs h.reported h.capacity
  -- ONBTN
  case inr.inr.inr.inr.inr.inl => exact (h.begin.register e).respond 0
  -- LAST and the operations that answer 0
  case inr.inr.inr.inr.inr.inr.inl => exact h.begin.respond w
  -- WAS
  case inr.inr.inr.inr.inr.inr.inr => exact h.begin.clearPressFlag.respond _

end Coherence

/-- Settles O52, by what the step does: a reset makes the state coherent, and an input, and time passing, keep
it so. -/
theorem everyStepKeepsCoherence : Obligations.EveryStepKeepsCoherence := by
  unfold Obligations.EveryStepKeepsCoherence
  intro s t hs hstep
  have ht : t.inputsOnly := hs.inputs.step hstep
  obtain rfl | ⟨w, u, i, hfetch, hi, rfl⟩ | ⟨-, -, rfl⟩ := hs.inputs.step_cases hstep
  · exact State.coherent_resetFields hs.inputs
  · have hu : u.inputsOnly := (hs.inputs.fetch_word hfetch).2
    obtain ⟨c, l, rfl⟩ := fetch_word_eq hfetch
    exact (hs.congr hu ⟨c, _, l, _, _, _, _, rfl⟩).execResult_input hi
  · obtain ⟨c, cs, hnext, -⟩ := s.nextCycle_eq
    exact hs.congr ht ⟨c, cs, _, _, _, _, _, hnext⟩

end Sys2Proof.Machine
end
